-- ==== Sys2Proof/Word.lean ====
section
/-! DEFINITION. The word types of L3CORE: the command word, the response word and the small fields they are made of
(spec 30_encoding.md R85, R96; 00_scope.md R8: bit 0 is the least significant bit, everything is unsigned). -/

namespace Sys2Proof

/-- A command word C, presented whole in one Cmd step (R85). -/
abbrev CmdWord := BitVec 64

/-- A response word RSP (R96). -/
abbrev RspWord := BitVec 32

/-- A four-bit field: a port number, a bit index, an op code, a `sub` value. -/
abbrev Nibble := BitVec 4

/-- A sixteen-bit quantity: a port register, a range value, a tick count. -/
abbrev Half := BitVec 16

/-- A byte of the sensor's frame (R44). -/
abbrev Byte := BitVec 8

/-- A logic level: low is `false`, high is `true` (R90). -/
abbrev Level := Bool

end Sys2Proof
end

