-- ==== Sys2Proof/Syntax.lean ====
section
/-! DEFINITION. The commands of L3CORE: one constructor of `Instr` per row of spec/opcode_table.json (30_encoding.md R86),
with operands as the spec names them (R87 to R92). -/

namespace Sys2Proof

/-- A pin: {port[3:0], index[3:0]} (R87). -/
structure Pin where
  port : Nibble
  index : Nibble
  deriving DecidableEq, Repr

/-- The five modes of a pin, in the order of their codes 0..4 (R88). -/
inductive PinMode where
  | reset
  | input
  | output
  | pullUp
  | pullDown
  deriving DecidableEq, Repr

/-- The three trigger modes of an edge line, in the order of their codes 0..2 (R89). -/
inductive TriggerMode where
  | none
  | rising
  | falling
  deriving DecidableEq, Repr

/-- The eleven commands (R86). -/
inductive Instr where
  /-- SET_MODE (R110). -/
  | setMode (pin : Pin) (mode : PinMode)
  /-- SET (R112). -/
  | set (pin : Pin) (level : Level)
  /-- GET (R114). -/
  | get (pin : Pin)
  /-- TOGGLE (R116). -/
  | toggle (pin : Pin)
  /-- SET_RANGE (R118): the pin is `pin_base`. -/
  | setRange (pin : Pin) (count : BitVec 5) (value : Half)
  /-- GET_RANGE (R120): the pin is `pin_base`. -/
  | getRange (pin : Pin) (count : BitVec 5)
  /-- SET_TRIGGER (R130). -/
  | setTrigger (pin : Pin) (mode : TriggerMode)
  /-- SET_CALLBACK (R133). -/
  | setCallback (pin : Pin) (token : BitVec 32)
  /-- OBSERVE (R150). -/
  | observe (pin : Pin) (level : Level) (maxTicks : Half)
  /-- READ (R166): the pin is the handle (R104). -/
  | read (pin : Pin)
  /-- CB_RETURN (R136). -/
  | cbReturn
  deriving DecidableEq, Repr

/-- The pin operand, which every command but CB_RETURN has (R200). -/
def Instr.pin? : Instr → Option Pin
  | .setMode pin _ => some pin
  | .set pin _ => some pin
  | .get pin => some pin
  | .toggle pin => some pin
  | .setRange pin _ _ => some pin
  | .getRange pin _ => some pin
  | .setTrigger pin _ => some pin
  | .setCallback pin _ => some pin
  | .observe pin _ _ => some pin
  | .read pin => some pin
  | .cbReturn => none

/-- The range operand (index of `pin_base`, count), which SET_RANGE and GET_RANGE have. -/
def Instr.range? : Instr → Option (Nibble × BitVec 5)
  | .setRange pin count _ => some (pin.index, count)
  | .getRange pin count => some (pin.index, count)
  | .setMode _ _ => none
  | .set _ _ => none
  | .get _ => none
  | .toggle _ => none
  | .setTrigger _ _ => none
  | .setCallback _ _ => none
  | .observe _ _ _ => none
  | .read _ => none
  | .cbReturn => none

end Sys2Proof
end

