-- ==== Sys2Proof/WellFormed.lean ====
section
/-! DEFINITION. Well-formed commands: those that none of the checks which "depend on the word and NPORTS only"
(60_exceptions.md R208, checks 2 and 3) refuses. Check 1, legality of the word, is what being an `Instr` means: every
`Instr` has an encoding (log 17). -/

namespace Sys2Proof

/-- Check 2: the pin operand names an existing port (20_memory.md R61). -/
def Instr.pinExists (nports : Nat) (i : Instr) : Bool :=
  match i.pin? with
  | some pin => decide (pin.port.toNat < nports)
  | none => true

/-- Check 3: a range lies inside one port, index + count ≤ 16 (20_memory.md R68). -/
def Instr.rangeInPort (i : Instr) : Bool :=
  match i.range? with
  | some (index, count) => decide (index.toNat + count.toNat ≤ 16)
  | none => true

/-- A command that the word and NPORTS alone give no reason to refuse. -/
def Instr.wellFormed (nports : Nat) (i : Instr) : Bool :=
  i.pinExists nports && i.rangeInPort

end Sys2Proof
end

