-- ==== Sys2Proof/Decode.lean ====
section
/-! DEFINITION. The decoder of a command word (30_encoding.md R85 to R95), total, rejecting by name, and after it the
encoder, both written from the field table of R85 and the opcode table of R86. -/

namespace Sys2Proof

/-- The seven fields of a command word (R85). -/
structure Fields where
  op : Nibble
  port : Nibble
  index : Nibble
  sub : Nibble
  count : BitVec 5
  rsv : BitVec 11
  imm : BitVec 32
  deriving DecidableEq, Repr

/-- The fields at the bit positions of R85. -/
def splitFields (w : CmdWord) : Fields where
  op := w.extractLsb' 60 4
  port := w.extractLsb' 56 4
  index := w.extractLsb' 52 4
  sub := w.extractLsb' 48 4
  count := w.extractLsb' 43 5
  rsv := w.extractLsb' 32 11
  imm := w.extractLsb' 0 32

/-- The word with these fields, the first the most significant (R85). -/
def joinFields (f : Fields) : CmdWord :=
  f.op ++ f.port ++ f.index ++ f.sub ++ f.count ++ f.rsv ++ f.imm

/-- Why a word is no command (R94): every one of them faults IllegalCommand (R202). -/
inductive Illegal where
  /-- R94 (a): `op` is 0x0 or 0xC..0xF. -/
  | reservedOp
  /-- R94 (b): a field the command does not use is not zero (R93). -/
  | unusedField
  /-- R94 (c): SET_MODE with sub > 4. -/
  | badPinMode
  /-- R94 (d): SET_TRIGGER with sub > 2. -/
  | badTrigger
  /-- R94 (e): SET or OBSERVE with sub > 1. -/
  | badLevel
  deriving DecidableEq, Repr

/-- The code of a PinMode in `sub` (R88). -/
def pinModeCode : PinMode → Nibble
  | .reset => 0
  | .input => 1
  | .output => 2
  | .pullUp => 3
  | .pullDown => 4

/-- The PinMode a `sub` value names; 5..15 are reserved (R88). -/
def pinModeOf (sub : Nibble) : Option PinMode :=
  if sub = 0 then some .reset
  else if sub = 1 then some .input
  else if sub = 2 then some .output
  else if sub = 3 then some .pullUp
  else if sub = 4 then some .pullDown
  else none

/-- The code of a TriggerMode in `sub` (R89), which is also the value of TRIG[i] (10_state.md R27). -/
def triggerCode : TriggerMode → Nibble
  | .none => 0
  | .rising => 1
  | .falling => 2

/-- The TriggerMode a `sub` value names; 3..15 are reserved (R89). -/
def triggerOf (sub : Nibble) : Option TriggerMode :=
  if sub = 0 then some .none
  else if sub = 1 then some .rising
  else if sub = 2 then some .falling
  else none

/-- The code of a level in `sub` (R90). -/
def levelCode (level : Level) : Nibble := if level then 1 else 0

/-- The level a `sub` value names; 2..15 are reserved (R90). -/
def levelOf (sub : Nibble) : Option Level :=
  if sub = 0 then some false
  else if sub = 1 then some true
  else none

/-- The 8-bit number of a pin, {port, index} (R87). -/
def pinCode (pin : Pin) : Byte := pin.port ++ pin.index

/-- The pin with this 8-bit number (R87). -/
def pinOf (code : Byte) : Pin := ⟨code.extractLsb' 4 4, code.extractLsb' 0 4⟩

/-- `instr` if the unused fields are zero, else the rejection (R93). -/
def ifUnusedZero (zero : Bool) (instr : Except Illegal Instr) : Except Illegal Instr :=
  if zero then instr else .error .unusedField

/-- An operand of an enumeration, or the rejection by name (R94 c to e). -/
def withOperand {α : Type} (operand : Option α) (why : Illegal) (instr : α → Instr) : Except Illegal Instr :=
  match operand with
  | some a => .ok (instr a)
  | none => .error why

/-- The command these fields are, or why they are none (R86, R93, R94). -/
def decodeFields (f : Fields) : Except Illegal Instr :=
  let pin : Pin := ⟨f.port, f.index⟩
  let noSub : Bool := f.sub == 0
  let noRange : Bool := f.count == 0 && f.rsv == 0
  let noImm : Bool := f.imm == 0
  let noImmHi : Bool := f.imm.extractLsb' 16 16 == 0
  let half : Half := f.imm.extractLsb' 0 16
  if f.op = 0x1 then
    ifUnusedZero (noRange && noImm) (withOperand (pinModeOf f.sub) .badPinMode (.setMode pin))
  else if f.op = 0x2 then
    ifUnusedZero (noRange && noImm) (withOperand (levelOf f.sub) .badLevel (.set pin))
  else if f.op = 0x3 then
    ifUnusedZero (noSub && noRange && noImm) (.ok (.get pin))
  else if f.op = 0x4 then
    ifUnusedZero (noSub && noRange && noImm) (.ok (.toggle pin))
  else if f.op = 0x5 then
    ifUnusedZero (noSub && f.rsv == 0 && noImmHi) (.ok (.setRange pin f.count half))
  else if f.op = 0x6 then
    ifUnusedZero (noSub && f.rsv == 0 && noImm) (.ok (.getRange pin f.count))
  else if f.op = 0x7 then
    ifUnusedZero (noRange && noImm) (withOperand (triggerOf f.sub) .badTrigger (.setTrigger pin))
  else if f.op = 0x8 then
    ifUnusedZero (noSub && noRange) (.ok (.setCallback pin f.imm))
  else if f.op = 0x9 then
    ifUnusedZero (noRange && noImmHi) (withOperand (levelOf f.sub) .badLevel (fun level => .observe pin level half))
  else if f.op = 0xA then
    ifUnusedZero (noSub && noRange && noImm) (.ok (.read pin))
  else if f.op = 0xB then
    ifUnusedZero (f.port == 0 && f.index == 0 && noSub && noRange && noImm) (.ok .cbReturn)
  else
    .error .reservedOp

/-- Decode is total (R95): every word is exactly one command, or illegal for a named reason. -/
def decode (w : CmdWord) : Except Illegal Instr := decodeFields (splitFields w)

/-- The fields of a command, unused ones zero (R86, R93). -/
def fieldsOf : Instr → Fields
  | .setMode pin mode => ⟨0x1, pin.port, pin.index, pinModeCode mode, 0, 0, 0⟩
  | .set pin level => ⟨0x2, pin.port, pin.index, levelCode level, 0, 0, 0⟩
  | .get pin => ⟨0x3, pin.port, pin.index, 0, 0, 0, 0⟩
  | .toggle pin => ⟨0x4, pin.port, pin.index, 0, 0, 0, 0⟩
  | .setRange pin count value => ⟨0x5, pin.port, pin.index, 0, count, 0, 0#16 ++ value⟩
  | .getRange pin count => ⟨0x6, pin.port, pin.index, 0, count, 0, 0⟩
  | .setTrigger pin mode => ⟨0x7, pin.port, pin.index, triggerCode mode, 0, 0, 0⟩
  | .setCallback pin token => ⟨0x8, pin.port, pin.index, 0, 0, 0, token⟩
  | .observe pin level maxTicks => ⟨0x9, pin.port, pin.index, levelCode level, 0, 0, 0#16 ++ maxTicks⟩
  | .read pin => ⟨0xA, pin.port, pin.index, 0, 0, 0, 0⟩
  | .cbReturn => ⟨0xB, 0, 0, 0, 0, 0, 0⟩

/-- The word of a command. -/
def encode (i : Instr) : CmdWord := joinFields (fieldsOf i)

/-- A row of the table of R86: its words are those `w` with `w & mask = pattern` (the table's `match`), of which R94 (c),
(d), (e) leave the ones whose `sub` is at most `subMax`. -/
structure Row where
  pattern : CmdWord
  mask : CmdWord
  subMax : Nat
  deriving DecidableEq, Repr

/-- The row of a command in the table of R86. -/
def rowOf : Instr → Row
  | .setMode _ _ => ⟨0x1000_0000_0000_0000, 0xF000_FFFF_FFFF_FFFF, 4⟩
  | .set _ _ => ⟨0x2000_0000_0000_0000, 0xF000_FFFF_FFFF_FFFF, 1⟩
  | .get _ => ⟨0x3000_0000_0000_0000, 0xF00F_FFFF_FFFF_FFFF, 0⟩
  | .toggle _ => ⟨0x4000_0000_0000_0000, 0xF00F_FFFF_FFFF_FFFF, 0⟩
  | .setRange _ _ _ => ⟨0x5000_0000_0000_0000, 0xF00F_07FF_FFFF_0000, 0⟩
  | .getRange _ _ => ⟨0x6000_0000_0000_0000, 0xF00F_07FF_FFFF_FFFF, 0⟩
  | .setTrigger _ _ => ⟨0x7000_0000_0000_0000, 0xF000_FFFF_FFFF_FFFF, 2⟩
  | .setCallback _ _ => ⟨0x8000_0000_0000_0000, 0xF00F_FFFF_0000_0000, 0⟩
  | .observe _ _ _ => ⟨0x9000_0000_0000_0000, 0xF000_FFFF_FFFF_0000, 1⟩
  | .read _ => ⟨0xA000_0000_0000_0000, 0xF00F_FFFF_FFFF_FFFF, 0⟩
  | .cbReturn => ⟨0xB000_0000_0000_0000, 0xFFFF_FFFF_FFFF_FFFF, 0⟩

/-- The table of R86, row by row. -/
def opcodeTable : List Row :=
  let pin : Pin := ⟨0, 0⟩
  [rowOf (.setMode pin .reset), rowOf (.set pin false), rowOf (.get pin), rowOf (.toggle pin), rowOf (.setRange pin 0 0),
    rowOf (.getRange pin 0), rowOf (.setTrigger pin .none), rowOf (.setCallback pin 0), rowOf (.observe pin false 0),
    rowOf (.read pin), rowOf .cbReturn]

/-- The word belongs to the row, and its `sub` is a legal one. -/
def Row.admits (row : Row) (w : CmdWord) : Bool :=
  w &&& row.mask == row.pattern && decide ((w.extractLsb' 48 4).toNat ≤ row.subMax)

/-- What the decoder reads from an instruction whose `nbits` bits are `w`, every higher bit being zero. The command port
takes one 64-bit number (R85, R70): no byte order arises. -/
def decodeTableWord (nbits w : Nat) : Option Instr :=
  match decode (BitVec.ofNat 64 (w % 2 ^ nbits)) with
  | .ok i => some i
  | .error _ => none

end Sys2Proof
end

