-- ==== Sys2Proof/Config.lean ====
section
/-! DEFINITION. What an implementation of L3CORE fixes (the parameters of spec 00_scope.md R6 under the constraints of
R7), and the values the spec leaves free (20_memory.md R63, 70_reset_and_hazards.md R241). -/

namespace Sys2Proof

/-- What the environment does to one pad during one Tick (R62): drives nothing, or holds it low or high. -/
inductive Ext where
  | z
  | low
  | high
  deriving DecidableEq, Repr, Inhabited

/-- The constraints on the parameters: 1 ≤ NPORTS ≤ 16 (R6), the four tick counts in 1..65535 (they are 16-bit, so:
not zero), US_PER_TICK ≥ 1, BIT_TIMEOUT_TICKS × US_PER_TICK < 2^32 (R7), the low hold lasts at least 20 ms (R6), and the high
hold is no longer than the low hold, without which CNT would exceed RESET_LOW_TICKS against 10_state.md R42 and R45 (h)
(DEDUCED, log 11). -/
def paramsOk (nports usPerTick : Nat) (ackTimeout bitTimeout resetLow startHigh : Half) : Bool :=
  decide (1 ≤ nports) && decide (nports ≤ 16) && decide (1 ≤ usPerTick)
    && decide (ackTimeout ≠ 0) && decide (bitTimeout ≠ 0) && decide (resetLow ≠ 0) && decide (startHigh ≠ 0)
    && decide (bitTimeout.toNat * usPerTick < 2 ^ 32) && decide (20000 ≤ resetLow.toNat * usPerTick)
    && decide (startHigh.toNat ≤ resetLow.toNat)

/-- The parameters of R6. A `Config` that breaks R7, or R42 (log 11), cannot be built. -/
structure Config where
  /-- NPORTS (OPEN). -/
  nports : Nat
  /-- US_PER_TICK. -/
  usPerTick : Nat
  /-- ACK_TIMEOUT_TICKS. -/
  ackTimeout : Half
  /-- BIT_TIMEOUT_TICKS. -/
  bitTimeout : Half
  /-- THRESHOLD_US. -/
  thresholdUs : Nat
  /-- RESET_LOW_TICKS. -/
  resetLow : Half
  /-- START_HIGH_TICKS. -/
  startHigh : Half
  /-- IRQ_PRIO (OPEN). -/
  irqPrio : Byte
  /-- The constraints of R6, R7 and R42 hold. -/
  valid : paramsOk nports usPerTick ackTimeout bitTimeout resetLow startHigh = true
  deriving DecidableEq, Repr

/-- The defaults of R6; for the two OPEN parameters, NPORTS = 2 and IRQ_PRIO = 0x40 (DESIGN CHOICE, log 5: the values
the spec's own test vectors take, "test choices, not facts about the hardware"). No statement rests on it. -/
def Config.default : Config where
  nports := 2
  usPerTick := 2
  ackTimeout := 700
  bitTimeout := 700
  thresholdUs := 50
  resetLow := 10000
  startHigh := 20
  irqPrio := 0x40
  valid := by decide

/-- The `draw` of R63: what a floating input pad (port, index) shows in the Tick with this number. A free value
(log 6): it has no body, so nothing can be proved of it. -/
opaque Config.draw : Nat → Nibble → Nibble → Level

/-- PADIN[p][i] after the Reset with this number, before the first Tick: unspecified (R241). A free value (log 7). -/
opaque Config.resetPad : Nat → Nibble → Nibble → Level

/-- PREV[i] after the Reset with this number, before the first Tick: unspecified (R241). A free value (log 7). -/
opaque Config.resetPrev : Nat → Nibble → Level

/-- The environment's drive of pad (port, index) in a Tick that the schedule of inputs no longer describes. A free value
(log 2). -/
opaque Config.freeExt : Nat → Nibble → Nibble → Ext

end Sys2Proof
end

