-- ==== Sys2Proof/Machine/Bank.lean ====
section
/-! DEFINITION. Banks: sixteen like registers, numbered by a four-bit port, bit index or edge line. -/

namespace Sys2Proof.Machine

/-- Sixteen values, one per port, bit index or edge line. -/
abbrev Bank (α : Type) := Vector α 16

/-- The value numbered `k`. -/
def bankGet {α : Type} (v : Bank α) (k : Nibble) : α := v[k.toNat]'k.isLt

/-- The bank with the value numbered `k` replaced. -/
def bankSet {α : Type} (v : Bank α) (k : Nibble) (a : α) : Bank α := v.set k.toNat a k.isLt

/-- The bank whose value numbered `k` is `f k`. -/
def bankOf {α : Type} (f : Nibble → α) : Bank α :=
  #v[f 0, f 1, f 2, f 3, f 4, f 5, f 6, f 7, f 8, f 9, f 10, f 11, f 12, f 13, f 14, f 15]

/-- The bank whose every value is `a`. -/
def bankAll {α : Type} (a : α) : Bank α := bankOf fun _ => a

/-- Per-pin registers: the value of pin (p, i). -/
def pinGet {α : Type} (v : Bank (Bank α)) (p i : Nibble) : α := bankGet (bankGet v p) i

/-- Per-pin registers with the value of pin (p, i) replaced. -/
def pinSet {α : Type} (v : Bank (Bank α)) (p i : Nibble) (a : α) : Bank (Bank α) :=
  bankSet v p (bankSet (bankGet v p) i a)

/-- The edge lines in ascending order (R13, R212). -/
def allLines : List Nibble := [0, 1, 2, 3, 4, 5, 6, 7, 8, 9, 10, 11, 12, 13, 14, 15]

end Sys2Proof.Machine
end

