-- ==== Sys2Proof/Machine/State.lean ====
section
/-! DEFINITION. The state of L3CORE (10_state.md R20 to R44), the reasons a step of the model can stop, and the state after
Reset (70_reset_and_hazards.md R240, R241). -/

namespace Sys2Proof.Machine

/-- Why the machine stops with a fault: never. "L3CORE never halts" (00_scope.md R16); a command the block refuses is a
NEXT state with a FAULT bit set (60_exceptions.md R201), see `FaultCode`. No constructor, so nobody raises one: safe. -/
inductive Fault where
  deriving DecidableEq, Repr

/-- Why a step has no meaning. -/
inductive Refusal where
  /-- The instruction has no meaning in the model yet. Raised by `exec`'s refused arms only, of which there are none
  left. Safe: nothing can be proved of a next state. -/
  | notModelled (mnemonic : String)
  deriving DecidableEq, Repr

/-- The pull configuration of a pin: the codes 0b00, 0b01, 0b10 of R22; 0b11 "never occurs", so it has no constructor
(log 19). -/
inductive Pull where
  | none
  | up
  | down
  deriving DecidableEq, Repr

/-- The decoder's states, with the codes 0 to 6 of R41; 7 "never occurs" (log 19). -/
inductive DState where
  | idle
  | requestPulse
  | awaitAck1
  | awaitAck2
  | bitCapture
  | checksumCheck
  | done
  deriving DecidableEq, Repr

/-- The six causes for which a command is refused, with the codes 1 to 6 (R200). -/
inductive FaultCode where
  | illegalCommand
  | invalidPin
  | rangeOverflow
  | busy
  | clockOff
  | notInService
  deriving DecidableEq, Repr

/-- The status of a Reading, with the codes 0 to 3 (R100). -/
inductive Status where
  | ok
  | timeout
  | notResponding
  | checksumMismatch
  deriving DecidableEq, Repr

/-- The contexts (R225). -/
inductive Context where
  | foreground
  | blocked
  | handler
  deriving DecidableEq, Repr

/-- The three columns of the acceptance table (R226). -/
inductive CmdClass where
  /-- SET_MODE, SET, GET, TOGGLE, SET_RANGE, GET_RANGE, SET_TRIGGER, SET_CALLBACK. -/
  | ordinary
  /-- OBSERVE, READ. -/
  | blocking
  /-- CB_RETURN. -/
  | callbackReturn
  deriving DecidableEq, Repr

/-- The InterruptBinding (R33). -/
structure Binding where
  valid : Bool
  port : Nibble
  index : Nibble
  cb : BitVec 32
  deriving DecidableEq, Repr

/-- What comes to the block from outside: the steps of R11 that the host and the environment choose (log 1). -/
inductive Input where
  /-- The host presents a command word: `Cmd(C)`. -/
  | cmd (word : CmdWord)
  /-- One quantum passes with these pads driven, all others Z: `Tick(Ext)` (R62). A pad named twice is driven as its
  first entry says. -/
  | tick (driven : List (Pin × Level))
  /-- `Reset` is asserted, after at most `defer` more Dispatch steps (log 3). -/
  | reset (defer : Nat)
  deriving DecidableEq, Repr

/-- What the block puts out: responses and events. -/
inductive Output where
  /-- The response word of a command (R96). -/
  | rsp (word : RspWord)
  /-- OBS_DONE (R97). -/
  | obsDone (ticks : Half)
  /-- READ_DONE, the 64-bit word E (R98). -/
  | readDone (word : BitVec 64)
  /-- CB_INVOKE (R99). -/
  | cbInvoke (token : BitVec 32) (index : Nibble)
  deriving DecidableEq, Repr

/-- Which step comes next (R11, R13, R240). -/
inductive Action where
  | reset
  | dispatch (line : Nibble)
  | command (word : CmdWord)
  | tick (driven : List (Pin × Level))
  /-- A Tick that the schedule of inputs no longer describes (log 2). -/
  | freeTick
  deriving DecidableEq, Repr

/-- The state of L3CORE. The first four fields are the model's own, the rest is the table of R20, element by element. Banks
indexed by a port have sixteen places, of which those at and above NPORTS stand for no port (log 9). -/
structure State where
  /-- The parameters (R6): the model's own field (log 5). -/
  cfg : Config
  /-- What the host and the environment will present: the model's own field (log 1). -/
  inputs : List Input
  /-- The number of free values drawn so far: the model's own field (log 6). -/
  draws : Nat
  /-- Everything the block has put out, oldest first: the model's own field (log 8). -/
  outputs : List Output
  /-- DIR (R21). -/
  dir : Bank Half
  /-- PULL (R22). -/
  pull : Bank (Bank Pull)
  /-- ODR (R23). -/
  odr : Bank Half
  /-- PADIN (R24). -/
  padin : Bank (Bank Level)
  /-- CLKEN (R26). -/
  clken : Bank Bool
  /-- TRIG (R27). -/
  trig : Bank TriggerMode
  /-- PEND (R28). -/
  pend : Bank Bool
  /-- PORTSEL (R29). -/
  portsel : Bank Nibble
  /-- PREV (R30). -/
  prev : Bank Level
  /-- IRQEN (R31). -/
  irqen : Vector Bool 7
  /-- IRQPRIO (R32). -/
  irqprio : Vector Byte 7
  /-- BIND (R33). -/
  bind : Binding
  /-- IMASK (R34). -/
  imask : Bool
  /-- INSVC (R35). -/
  insvc : Bool
  /-- FAULT (R36). -/
  fault : Byte
  /-- DPIN (R40). -/
  dpin : Pin
  /-- DSTATE (R41). -/
  dstate : DState
  /-- DPHASE (R41). -/
  dphase : BitVec 2
  /-- BITIDX (R41). -/
  bitidx : BitVec 6
  /-- OACTIVE (R41). -/
  oactive : Bool
  /-- CNT (R42). -/
  cnt : Half
  /-- OPIN (R43). -/
  opin : Pin
  /-- OTARGET (R43). -/
  otarget : Level
  /-- OMAX (R43). -/
  omax : Half
  /-- OCNT (R43). -/
  ocnt : Half
  /-- FRAME (R44). -/
  frame : Vector Byte 5
  deriving DecidableEq, Repr

/-- PADIN after the Reset numbered `n`: unspecified (R241, log 7). -/
def unspecifiedPads (n : Nat) : Bank (Bank Level) := bankOf fun p => bankOf fun i => Config.resetPad n p i

/-- PREV after the Reset numbered `n`: unspecified (R241, log 7). -/
def unspecifiedPrev (n : Nat) : Bank Level := bankOf fun i => Config.resetPrev n i

/-- The machine right after Reset (R240): all state zero but PADIN and PREV, which are unspecified (R241), with the
default parameters (log 5) and nothing presented yet (log 1). -/
def State.reset : State where
  cfg := Config.default
  inputs := []
  draws := 1
  outputs := []
  dir := bankAll 0
  pull := bankAll (bankAll .none)
  odr := bankAll 0
  padin := unspecifiedPads 0
  clken := bankAll false
  trig := bankAll .none
  pend := bankAll false
  portsel := bankAll 0
  prev := unspecifiedPrev 0
  irqen := #v[false, false, false, false, false, false, false]
  irqprio := #v[0, 0, 0, 0, 0, 0, 0]
  bind := ⟨false, 0, 0, 0⟩
  imask := false
  insvc := false
  fault := 0
  dpin := ⟨0, 0⟩
  dstate := .idle
  dphase := 0
  bitidx := 0
  oactive := false
  cnt := 0
  opin := ⟨0, 0⟩
  otarget := false
  omax := 0
  ocnt := 0
  frame := #v[0, 0, 0, 0, 0]

end Sys2Proof.Machine
end

