-- ==== Sys2Proof/Machine/Operands.lean ====
section
/-! DEFINITION. Operand forms: the level view of a pin, the checks of pin and range operands, the mapping of a PinMode to
the two hardware fields, the masks of a range, the interrupt group of a line. -/

namespace Sys2Proof.Machine

/-- LEVEL(p, i), the one view through which every reader sees a pin (20_memory.md R64). -/
def level (s : State) (p i : Nibble) : Level :=
  if (bankGet s.dir p).getLsbD i.toNat then (bankGet s.odr p).getLsbD i.toNat else pinGet s.padin p i

/-- A pin operand is valid iff its port field is less than NPORTS (20_memory.md R61). -/
def pinValid (s : State) (pin : Pin) : Bool := decide (pin.port.toNat < s.cfg.nports)

/-- A range lies inside one port (20_memory.md R68). -/
def rangeFits (index : Nibble) (count : BitVec 5) : Bool := decide (index.toNat + count.toNat ≤ 16)

/-- The port's clock is enabled (10_state.md R26). -/
def clockOn (s : State) (pin : Pin) : Bool := bankGet s.clken pin.port

/-- The direction a mode gives: 1 is output (40_gpio.md R111). -/
def modeDir : PinMode → Bool
  | .reset => false
  | .input => false
  | .output => true
  | .pullUp => false
  | .pullDown => false

/-- The pull a mode gives (40_gpio.md R111). -/
def modePull : PinMode → Pull
  | .reset => .none
  | .input => .none
  | .output => .none
  | .pullUp => .up
  | .pullDown => .down

/-- The code of a pull configuration (10_state.md R22). -/
def pullCode : Pull → BitVec 2
  | .none => 0b00
  | .up => 0b01
  | .down => 0b10

/-- The code of a decoder state (10_state.md R41). -/
def dstateCode : DState → BitVec 3
  | .idle => 0
  | .requestPulse => 1
  | .awaitAck1 => 2
  | .awaitAck2 => 3
  | .bitCapture => 4
  | .checksumCheck => 5
  | .done => 6

/-- A sixteen-bit register with bit `i` made `b`: (w & ~(1 << i)) | (b << i) (40_gpio.md R112). -/
def putBit (w : Half) (i : Nibble) (b : Bool) : Half :=
  (w &&& ~~~((1 : Half) <<< i.toNat)) ||| ((if b then (1 : Half) else 0) <<< i.toNat)

/-- A sixteen-bit register with bit `i` inverted: w ^ (1 << i) (40_gpio.md R116). -/
def flipBit (w : Half) (i : Nibble) : Half := w ^^^ ((1 : Half) <<< i.toNat)

/-- mask(n) = 2^n - 1 (00_scope.md R9). -/
def maskOf (n : Nat) : Half := BitVec.ofNat 16 (2 ^ n - 1)

/-- A port register with `count` bits from bit `i` replaced by the low bits of `value` (40_gpio.md R118). -/
def putRange (w : Half) (i : Nibble) (count : BitVec 5) (value : Half) : Half :=
  let m := maskOf count.toNat <<< i.toNat
  (w &&& ~~~m) ||| ((value &&& maskOf count.toNat) <<< i.toNat)

/-- `count` bits of a port word from bit `i`: (L >> i) & mask(count) (40_gpio.md R120). -/
def takeRange (w : Half) (i : Nibble) (count : BitVec 5) : Half := (w >>> i.toNat) &&& maskOf count.toNat

/-- One bit of a port word, at position `j`. -/
def bitAt (b : Bool) (j : Nat) : Half := (if b then (1 : Half) else 0) <<< j

/-- L, the sixteen-bit word whose bit j is LEVEL(p, j) (40_gpio.md R120). -/
def levelWord (s : State) (p : Nibble) : Half :=
  allLines.foldl (fun w j => w ||| bitAt (level s p j) j.toNat) 0

/-- grp(i), the interrupt group of bit index i (60_exceptions.md R210): 0 to 4 one line each, 5 to 9 pooled, 10 to 15
pooled. -/
def grp (i : Nibble) : Fin 7 :=
  if h : i.toNat ≤ 4 then ⟨i.toNat, by omega⟩ else if i.toNat ≤ 9 then 5 else 6

/-- What the environment does to a pad in a Tick that drives these pads and no other (20_memory.md R62). -/
def drivenExt (driven : List (Pin × Level)) (p i : Nibble) : Ext :=
  match driven.lookup ⟨p, i⟩ with
  | some true => .high
  | some false => .low
  | none => .z

end Sys2Proof.Machine
end

