-- ==== Sys2Proof/Machine/Flags.lean ====
section
/-! DEFINITION. Flags and status: the sticky FAULT bits, the contexts and which commands each accepts, the decode status
and its word, the bit decision. There are no arithmetic condition codes (10_state.md R37). -/

namespace Sys2Proof.Machine

/-- The code of a fault cause, which is also its bit position in FAULT (60_exceptions.md R200, 10_state.md R36). -/
def faultNumber : FaultCode → Nibble
  | .illegalCommand => 1
  | .invalidPin => 2
  | .rangeOverflow => 3
  | .busy => 4
  | .clockOff => 5
  | .notInService => 6

/-- FAULT[code] <- 1 (60_exceptions.md R201). -/
def raiseFlag (c : FaultCode) (flags : Byte) : Byte := flags ||| ((1 : Byte) <<< (faultNumber c).toNat)

/-- The sequencer is active: DSTATE is not Idle or OACTIVE = 1 (10_state.md R41). -/
def active (s : State) : Bool := s.dstate != .idle || s.oactive

/-- The context, from state alone (60_exceptions.md R225). -/
def context (s : State) : Context :=
  if s.insvc then .handler else if active s then .blocked else .foreground

/-- The acceptance table (60_exceptions.md R226). -/
def accepts : Context → CmdClass → Bool
  | .foreground, .ordinary => true
  | .foreground, .blocking => true
  | .foreground, .callbackReturn => false
  | .blocked, .ordinary => false
  | .blocked, .blocking => false
  | .blocked, .callbackReturn => false
  | .handler, .ordinary => true
  | .handler, .blocking => false
  | .handler, .callbackReturn => true

/-- The code of a decode status (30_encoding.md R100). -/
def statusCode : Status → BitVec 2
  | .ok => 0
  | .timeout => 1
  | .notResponding => 2
  | .checksumMismatch => 3

/-- decide(r): the bit a high pulse of `r` ticks stands for, 1 iff r × US_PER_TICK > THRESHOLD_US, the product exact
(43_decoder.md R178, log 18). -/
def decideBit (cfg : Config) (r : Half) : Bool := decide (cfg.thresholdUs < r.toNat * cfg.usPerTick)

/-- The sum of bytes 0 to 3, mod 256 (43_decoder.md R181). -/
def checksum (frame : Vector Byte 5) : Byte := frame[0] + frame[1] + frame[2] + frame[3]

/-- The status of a completed frame (43_decoder.md R181). -/
def frameStatus (frame : Vector Byte 5) : Status := if frame[4] = checksum frame then .ok else .checksumMismatch

/-- 10 × whole + fraction, in 12 bits (43_decoder.md R182). -/
def tenths (whole fraction : Byte) : BitVec 12 := 10 * whole.setWidth 12 + fraction.setWidth 12

/-- The READ_DONE word E: {0, temp_tenths, hum_tenths, b3, b2, b1, b0, status} (30_encoding.md R98). -/
def readingWord (status : Status) (b0 b1 b2 b3 : Byte) (hum temp : BitVec 12) : BitVec 64 :=
  (0 : BitVec 6) ++ temp ++ hum ++ b3 ++ b2 ++ b1 ++ b0 ++ statusCode status

/-- READ_DONE for a completed frame, OK and ChecksumMismatch alike (43_decoder.md R182). -/
def frameWord (frame : Vector Byte 5) : BitVec 64 :=
  readingWord (frameStatus frame) frame[0] frame[1] frame[2] frame[3]
    (tenths frame[0] frame[1]) (tenths frame[2] frame[3])

/-- READ_DONE for a failed decode: the status, every data field zero (43_decoder.md R183, log 16). -/
def failureWord (status : Status) : BitVec 64 := readingWord status 0 0 0 0 0 0

end Sys2Proof.Machine
end

