-- ==== Sys2Proof/Machine/Ops.lean ====
section
/-! DEFINITION. The shared operations: responses and events, taking a command fault, the order of the checks, the register
updates the commands and the decoder share, pad sampling, the entry to a callback (Dispatch) and the return from it, and
Reset. -/

namespace Sys2Proof.Machine

/-- A response word: {code, 12 zero bits, data} (30_encoding.md R96). -/
def rspWord (code : Nibble) (data : Half) : RspWord := code ++ (0 : BitVec 12) ++ data

/-- Put something on the block's output. -/
def emit (o : Output) (s : State) : State := { s with outputs := s.outputs ++ [o] }

/-- respond(v): the command ends with an OK response carrying `v` (00_scope.md R9, 30_encoding.md R96). -/
def respond (data : Half) (s : State) : State := emit (.rsp (rspWord 0 data)) s

/-- TAKING A COMMAND FAULT (60_exceptions.md R201): its FAULT bit is set, the response carries its code, and nothing else
changes. There is no return from it: only Reset clears FAULT. -/
def takeFault (c : FaultCode) (s : State) : State :=
  emit (.rsp (rspWord (faultNumber c) 0)) { s with fault := raiseFlag c s.fault }

/-- The first cause that applies (60_exceptions.md R208: "The first that applies is the one reported"). -/
def firstCause : List (FaultCode × Bool) → Option FaultCode
  | [] => none
  | (c, applies) :: rest => if applies then some c else firstCause rest

/-- A command that passed decode: it takes the first fault that applies, or has its effect. -/
def guarded (causes : List (FaultCode × Bool)) (s : State) (effect : State) : Host.Outcome State Fault Refusal :=
  match firstCause causes with
  | some c => .next (takeFault c s)
  | none => .next effect

/-- The command is not accepted in the present context (60_exceptions.md R226). -/
def turnedAway (cls : CmdClass) (s : State) : Bool := !accepts (context s) cls

/-- do_set_mode(p, i, mode): the port's clock goes on and both fields of the pin are written (40_gpio.md R110). -/
def doSetMode (pin : Pin) (mode : PinMode) (s : State) : State :=
  { s with
    clken := bankSet s.clken pin.port true
    dir := bankSet s.dir pin.port (putBit (bankGet s.dir pin.port) pin.index (modeDir mode))
    pull := pinSet s.pull pin.port pin.index (modePull mode) }

/-- do_set(p, i, level) (40_gpio.md R112). -/
def doSet (pin : Pin) (b : Level) (s : State) : State :=
  { s with odr := bankSet s.odr pin.port (putBit (bankGet s.odr pin.port) pin.index b) }

/-- What PADIN[p][i] becomes in a Tick: the external drive, else the pull, else a draw (20_memory.md R63). -/
def sampledPad (ext : Ext) (pull : Pull) (drawn : Level) : Level :=
  match ext with
  | .low => false
  | .high => true
  | .z =>
    match pull with
    | .up => true
    | .down => false
    | .none => drawn

/-- Step (1) of a Tick: PADIN of every pin of every port is rewritten, whatever DIR and CLKEN are (20_memory.md R63). -/
def samplePads (ext : Nibble → Nibble → Ext) (s : State) : State :=
  { s with
    draws := s.draws + 1
    padin := bankOf fun p =>
      if p.toNat < s.cfg.nports then
        bankOf fun i => sampledPad (ext p i) (pinGet s.pull p i) (Config.draw s.draws p i)
      else bankGet s.padin p }

/-- Dispatch(i) is enabled (60_exceptions.md R215). -/
def dispatchable (s : State) (i : Nibble) : Bool := bankGet s.pend i && s.irqen[grp i] && !s.imask && !s.insvc

/-- The line the next Dispatch serves: the lowest enabled one (00_scope.md R13, 60_exceptions.md R212). -/
def dueLine (s : State) : Option Nibble := allLines.find? (dispatchable s)

/-- Whether a Dispatch of line `i` invokes the callback (60_exceptions.md R216). -/
def invokes (i : Nibble) (trig : TriggerMode) (live : Level) : Bool :=
  if i.toNat ≤ 4 then
    match trig with
    | .rising => live
    | .falling => !live
    | .none => false
  else true

/-- TAKING AN EDGE INTERRUPT: Dispatch(i) clears the pending flag, re-reads pin i of the binding's port, and may invoke
the callback. Nothing is saved (60_exceptions.md R215). -/
def dispatchLine (i : Nibble) (s : State) : State :=
  let cleared := { s with pend := bankSet s.pend i false }
  if invokes i (bankGet s.trig i) (level s s.bind.port i) then
    emit (.cbInvoke s.bind.cb i) { cleared with insvc := true }
  else cleared

/-- RETURNING FROM AN EDGE INTERRUPT: INSVC is cleared, and nothing is restored, because entry saved nothing
(60_exceptions.md R220). -/
def returnFromCallback (s : State) : State := { s with insvc := false }

/-- The Reset step (70_reset_and_hazards.md R240): every element of the state goes to its reset value, PADIN and PREV to
unspecified ones (R241). The parameters, what is still to be presented and what has been put out are no state of the
block and stay. -/
def resetStep (s : State) : State :=
  { State.reset with
    cfg := s.cfg
    inputs := s.inputs
    outputs := s.outputs
    draws := s.draws + 1
    padin := unspecifiedPads s.draws
    prev := unspecifiedPrev s.draws }

end Sys2Proof.Machine
end

