-- ==== Sys2Proof/Machine/Observer.lean ====
section
/-! DEFINITION. The pulse-width observer (42_observer.md): OBSERVE, and the micro-step that a stand-alone observation and
the decoder share. -/

namespace Sys2Proof.Machine

/-- The state change of OBSERVE with max_ticks ≥ 1 (R150). -/
def startObserve (pin : Pin) (target : Level) (maxTicks : Half) (s : State) : State :=
  { s with opin := pin, otarget := target, omax := maxTicks, ocnt := 0, oactive := true }

/-- OBSERVE (R150); with max_ticks = 0 it ends at once, no register changes and OBS_DONE(0) is put out in the same step
(R151). -/
def execObserve (pin : Pin) (target : Level) (maxTicks : Half) (s : State) : Host.Outcome State Fault Refusal :=
  guarded [(.invalidPin, !pinValid s pin), (.busy, turnedAway .blocking s), (.clockOff, !clockOn s pin)] s
    (if maxTicks = 0 then emit (.obsDone 0) (respond 0 s)
     else respond 0 (startObserve pin target maxTicks s))

/-- One poll counted: OCNT <- OCNT + 1 (R155). -/
def polled (s : State) : State := { s with ocnt := s.ocnt + 1 }

/-- The result with which a poll ends the observation, if it does: the count on a match, 0 when the bound is reached; the
match is tested before the bound (R155). `s` is the state after the increment. -/
def pollResult (s : State) : Option Half :=
  if level s s.opin.port s.opin.index = s.otarget then some s.ocnt
  else if s.omax ≤ s.ocnt then some 0
  else none

/-- The observer micro-step (R155); `ended` is what its user does with the result, in the same Tick. -/
def observerStep (ended : Half → State → State) (s : State) : State :=
  match pollResult (polled s) with
  | some r => ended r (polled s)
  | none => polled s

/-- End of a stand-alone observation (R156): the other registers keep their last values. -/
def endObserve (r : Half) (s : State) : State := emit (.obsDone r) { s with oactive := false }

/-- arm(t, m): load the observer for the decoder's use (43_decoder.md R172). -/
def arm (target : Level) (bound : Half) (s : State) : State :=
  { s with opin := s.dpin, otarget := target, omax := bound, ocnt := 0 }

end Sys2Proof.Machine
end

