-- ==== Sys2Proof/Machine/Decoder.lean ====
section
/-! DEFINITION. The single-wire protocol decoder (43_decoder.md): READ, and one micro-step per Tick. -/

namespace Sys2Proof.Machine

/-- DPHASE in RequestPulse: Low (10_state.md R41). -/
def phaseLow : BitVec 2 := 0

/-- DPHASE in RequestPulse: High. -/
def phaseHigh : BitVec 2 := 1

/-- DPHASE in RequestPulse: Check. -/
def phaseCheck : BitVec 2 := 2

/-- DPHASE in BitCapture: WaitHigh. -/
def phaseWaitHigh : BitVec 2 := 0

/-- DPHASE in BitCapture: Measure. -/
def phaseMeasure : BitVec 2 := 1

/-- Steps 1 to 5 of READ's state change (R166). -/
def startRead (pin : Pin) (s : State) : State :=
  let fresh := { s with dpin := pin, frame := #v[0, 0, 0, 0, 0], bitidx := 0 }
  { doSet pin false (doSetMode pin .output fresh) with cnt := 0, dstate := .requestPulse, dphase := phaseLow }

/-- READ (R166). Never ClockOff: it enables the clock itself. -/
def execRead (pin : Pin) (s : State) : Host.Outcome State Fault Refusal :=
  guarded [(.invalidPin, !pinValid s pin), (.busy, turnedAway .blocking s)] s (respond 0 (startRead pin s))

/-- The sequencer goes to Idle at the end of a decode (R182, R183). -/
def toIdle (s : State) : State := { s with dstate := .idle, dphase := 0 }

/-- finish(status): the exit for NotResponding and Timeout; the masked window is closed, the data fields are zero and FRAME
keeps what was captured (R183). -/
def finish (status : Status) (s : State) : State :=
  toIdle (emit (.readDone (failureWord status)) { s with imask := false })

/-- (RequestPulse, Low): one tick of the reset-drive (R168), and its end: the masked window opens and the wire is driven
high (R169). -/
def lowHold (s : State) : State :=
  let s' := { s with cnt := s.cnt + 1 }
  if s.cfg.resetLow ≤ s'.cnt then
    { doSet s.dpin true { s' with imask := true } with cnt := 0, dphase := phaseHigh }
  else s'

/-- (RequestPulse, High): one tick of the high hold, and its end: the pin is released (R170). -/
def highHold (s : State) : State :=
  let s' := { s with cnt := s.cnt + 1 }
  if s.cfg.startHigh ≤ s'.cnt then { doSetMode s.dpin .input s' with dphase := phaseCheck } else s'

/-- (RequestPulse, Check): is the line still high after the release? (R171) -/
def checkRelease (s : State) : State :=
  if level s s.dpin.port s.dpin.index then finish .notResponding s
  else arm true s.cfg.ackTimeout { s with dstate := .awaitAck1, dphase := 0 }

/-- AwaitAck1 ends (R174). -/
def ack1Ended (r : Half) (s : State) : State :=
  if r = 0 then finish .timeout s else arm false s.cfg.ackTimeout { s with dstate := .awaitAck2 }

/-- AwaitAck2 ends (R175). -/
def ack2Ended (r : Half) (s : State) : State :=
  if r = 0 then finish .timeout s
  else arm true s.cfg.bitTimeout { s with dstate := .bitCapture, dphase := phaseWaitHigh, bitidx := 0 }

/-- (BitCapture, WaitHigh) ends (R176). -/
def waitHighEnded (r : Half) (s : State) : State :=
  if r = 0 then finish .timeout s else arm false s.cfg.bitTimeout { s with dphase := phaseMeasure }

/-- Shift-in, MSB first: FRAME[k] <- ((FRAME[k] << 1) | bit) & 0xFF with k = BITIDX div 8 (R179). -/
def shiftIn (bit : Bool) (s : State) : State :=
  let k := s.bitidx.toNat / 8
  { s with frame := s.frame.setIfInBounds k ((s.frame.getD k 0 <<< 1) ||| (if bit then 1 else 0)) }

/-- ChecksumCheck and Done, in the Tick that captured the last bit (R181, R182). -/
def deliver (s : State) : State := toIdle (emit (.readDone (frameWord s.frame)) s)

/-- Advance to the next bit, or close the masked window after the fortieth and deliver (R180). -/
def advanceBit (s : State) : State :=
  if s.bitidx < 39 then
    arm true s.cfg.bitTimeout { s with bitidx := s.bitidx + 1, dphase := phaseWaitHigh }
  else deliver { s with imask := false }

/-- (BitCapture, Measure) ends (R177): a timed-out measurement is a Timeout (90_conflicts.md C2). -/
def measureEnded (r : Half) (s : State) : State :=
  if r = 0 then finish .timeout s else advanceBit (shiftIn (decideBit s.cfg r) s)

/-- One sequencer micro-step, chosen by (DSTATE, DPHASE), or the stand-alone observer's (R167, 42_observer.md R155, R156).
ChecksumCheck, Done and the unused phases have none: no run reaches them (log 10). -/
def microStep (s : State) : State :=
  match s.dstate with
  | .idle => if s.oactive then observerStep endObserve s else s
  | .requestPulse =>
    if s.dphase = phaseLow then lowHold s
    else if s.dphase = phaseHigh then highHold s
    else if s.dphase = phaseCheck then checkRelease s
    else s
  | .awaitAck1 => observerStep ack1Ended s
  | .awaitAck2 => observerStep ack2Ended s
  | .bitCapture =>
    if s.dphase = phaseWaitHigh then observerStep waitHighEnded s
    else if s.dphase = phaseMeasure then observerStep measureEnded s
    else s
  | .checksumCheck => s
  | .done => s

end Sys2Proof.Machine
end

