-- ==== Sys2Proof/Machine/Edge.lean ====
section
/-! DEFINITION. The edge-detect commands SET_TRIGGER, SET_CALLBACK, CB_RETURN and the edge detector of a Tick
(41_edge.md). -/

namespace Sys2Proof.Machine

/-- SET_TRIGGER (R130): the port of the operand is checked and then not used; PEND and PREV are not touched. -/
def execSetTrigger (pin : Pin) (mode : TriggerMode) (s : State) : Host.Outcome State Fault Refusal :=
  guarded [(.invalidPin, !pinValid s pin), (.busy, turnedAway .ordinary s)] s
    (respond 0 { s with trig := bankSet s.trig pin.index mode })

/-- The state change of SET_CALLBACK (R133): the one binding, the port selection of the line, enable and priority of its
group. -/
def bindCallback (pin : Pin) (token : BitVec 32) (s : State) : State :=
  { s with
    portsel := bankSet s.portsel pin.index pin.port
    irqen := s.irqen.set (grp pin.index) true
    irqprio := s.irqprio.set (grp pin.index) s.cfg.irqPrio
    bind := ⟨true, pin.port, pin.index, token⟩ }

/-- SET_CALLBACK (R133). -/
def execSetCallback (pin : Pin) (token : BitVec 32) (s : State) : Host.Outcome State Fault Refusal :=
  guarded [(.invalidPin, !pinValid s pin), (.busy, turnedAway .ordinary s)] s
    (respond 0 (bindCallback pin token s))

/-- CB_RETURN (R136). -/
def execCbReturn (s : State) : Host.Outcome State Fault Refusal :=
  guarded [(.notInService, turnedAway .callbackReturn s)] s (respond 0 (returnFromCallback s))

/-- The armed edge is seen between two successive samples (R139). -/
def edgeSeen (trig : TriggerMode) (before now : Level) : Bool :=
  match trig with
  | .none => false
  | .rising => !before && now
  | .falling => before && !now

/-- Step (3) of a Tick: the edge detector, on every line, whatever IMASK, INSVC, IRQEN and CLKEN are (R139). -/
def detectEdges (s : State) : State :=
  let now (i : Nibble) : Level := level s (bankGet s.portsel i) i
  { s with
    pend := bankOf fun i => bankGet s.pend i || edgeSeen (bankGet s.trig i) (bankGet s.prev i) (now i)
    prev := bankOf now }

end Sys2Proof.Machine
end

