-- ==== Sys2Proof/Machine/Gpio.lean ====
section
/-! DEFINITION. The GPIO control commands (40_gpio.md): SET_MODE, SET, GET, TOGGLE, SET_RANGE, GET_RANGE. The list of causes
of each is in the order of 60_exceptions.md R208. -/

namespace Sys2Proof.Machine

/-- SET_MODE (R110). Never ClockOff: "this is the command that turns the clock on". -/
def execSetMode (pin : Pin) (mode : PinMode) (s : State) : Host.Outcome State Fault Refusal :=
  guarded [(.invalidPin, !pinValid s pin), (.busy, turnedAway .ordinary s)] s
    (respond 0 (doSetMode pin mode s))

/-- SET (R112), whatever the direction of the pin. -/
def execSet (pin : Pin) (b : Level) (s : State) : Host.Outcome State Fault Refusal :=
  guarded [(.invalidPin, !pinValid s pin), (.busy, turnedAway .ordinary s), (.clockOff, !clockOn s pin)] s
    (respond 0 (doSet pin b s))

/-- GET (R114): the level view, zero-extended. -/
def execGet (pin : Pin) (s : State) : Host.Outcome State Fault Refusal :=
  guarded [(.invalidPin, !pinValid s pin), (.busy, turnedAway .ordinary s), (.clockOff, !clockOn s pin)] s
    (respond (bitAt (level s pin.port pin.index) 0) s)

/-- TOGGLE (R116): the ODR bit is inverted, not the pad level. -/
def execToggle (pin : Pin) (s : State) : Host.Outcome State Fault Refusal :=
  guarded [(.invalidPin, !pinValid s pin), (.busy, turnedAway .ordinary s), (.clockOff, !clockOn s pin)] s
    (respond 0 { s with odr := bankSet s.odr pin.port (flipBit (bankGet s.odr pin.port) pin.index) })

/-- SET_RANGE (R118). -/
def execSetRange (pin : Pin) (count : BitVec 5) (value : Half) (s : State) : Host.Outcome State Fault Refusal :=
  guarded
    [(.invalidPin, !pinValid s pin), (.rangeOverflow, !rangeFits pin.index count), (.busy, turnedAway .ordinary s),
      (.clockOff, !clockOn s pin)] s
    (respond 0 { s with odr := bankSet s.odr pin.port (putRange (bankGet s.odr pin.port) pin.index count value) })

/-- GET_RANGE (R120): each pin of the range through the level view. -/
def execGetRange (pin : Pin) (count : BitVec 5) (s : State) : Host.Outcome State Fault Refusal :=
  guarded
    [(.invalidPin, !pinValid s pin), (.rangeOverflow, !rangeFits pin.index count), (.busy, turnedAway .ordinary s),
      (.clockOff, !clockOn s pin)] s
    (respond (takeRange (levelWord s pin.port) pin.index count) s)

end Sys2Proof.Machine
end

