-- ==== Sys2Proof/Machine/Dispatch.lean ====
section
/-! DEFINITION. One meaning per command: the Cmd step of a word that is a legal command (00_scope.md R11). -/

namespace Sys2Proof.Machine

def exec (i : Instr) (s : State) : Host.Outcome State Fault Refusal :=
  match i with
  | .setMode pin mode => Sys2Proof.Machine.execSetMode pin mode s
  | .set pin b => Sys2Proof.Machine.execSet pin b s
  | .get pin => Sys2Proof.Machine.execGet pin s
  | .toggle pin => Sys2Proof.Machine.execToggle pin s
  | .setRange pin count value => Sys2Proof.Machine.execSetRange pin count value s
  | .getRange pin count => Sys2Proof.Machine.execGetRange pin count s
  | .setTrigger pin mode => Sys2Proof.Machine.execSetTrigger pin mode s
  | .setCallback pin token => Sys2Proof.Machine.execSetCallback pin token s
  | .observe pin target maxTicks => Sys2Proof.Machine.execObserve pin target maxTicks s
  | .read pin => Sys2Proof.Machine.execRead pin s
  | .cbReturn => Sys2Proof.Machine.execCbReturn s

end Sys2Proof.Machine
end

