-- ==== Sys2Proof/Machine/Tick.lean ====
section
/-! DEFINITION. A Tick (00_scope.md R12), and which step comes next (R11, R13). -/

namespace Sys2Proof.Machine

/-- Step (2) of a Tick: one micro-step of an active sequencer; while a callback is in service it does not advance (R12,
42_observer.md R158). -/
def advanceSequencer (s : State) : State := if active s && !s.insvc then microStep s else s

/-- Tick(Ext): pad sampling, sequencer micro-step, edge detector, in this order (R12). -/
def tick (ext : Nibble → Nibble → Ext) (s : State) : State := detectEdges (advanceSequencer (samplePads ext s))

/-- The step that the next entry of the schedule asks for. -/
def askedFor : List Input → Action
  | [] => .freeTick
  | .cmd word :: _ => .command word
  | .tick driven :: _ => .tick driven
  | .reset _ :: _ => .reset

/-- Reset is asserted now. -/
def resetNow : List Input → Bool
  | .reset 0 :: _ => true
  | _ => false

/-- Which step comes next: a Reset that is asserted now (70_reset_and_hazards.md R240), else the Dispatch of the lowest
enabled line, before any Tick and any Cmd (R13), else what the schedule asks for. -/
def nextAction (s : State) : Action :=
  if resetNow s.inputs then .reset
  else
    match dueLine s with
    | some line => .dispatch line
    | none => askedFor s.inputs

/-- The schedule after a Dispatch: nothing is used up, and a Reset that waits for Dispatch steps waits for one less. -/
def afterDispatch : List Input → List Input
  | .reset (n + 1) :: rest => .reset n :: rest
  | inputs => inputs

/-- The state with the next entry of the schedule used up. -/
def takeInput (s : State) : State := { s with inputs := s.inputs.tail }

/-- The state in which a Dispatch takes place. -/
def letDispatch (s : State) : State := { s with inputs := afterDispatch s.inputs }

/-- The schedule with a command presented before everything else. -/
def presented (nbits w : Nat) (inputs : List Input) : List Input := .cmd (BitVec.ofNat 64 (w % 2 ^ nbits)) :: inputs

end Sys2Proof.Machine
end

