-- ==== Sys2Proof/Machine/Step.lean ====
section
/-! DEFINITION. One step of L3CORE: a Reset, a Dispatch, a Cmd or a Tick (00_scope.md R11). -/

namespace Sys2Proof.Machine

/-- Cmd(C): decode comes before any other check (30_encoding.md R95); a word that is no command faults IllegalCommand
(60_exceptions.md R202). -/
def runWord (word : CmdWord) (s : State) : Host.Outcome State Fault Refusal :=
  match decode word with
  | .ok i => exec i s
  | .error _ => .next (takeFault .illegalCommand s)

/-- One step. -/
def step (s : State) : Host.Outcome State Fault Refusal :=
  match nextAction s with
  | .reset => .next (resetStep (takeInput s))
  | .dispatch line => .next (dispatchLine line (letDispatch s))
  | .command word => runWord word (takeInput s)
  | .tick driven => .next (tick (drivenExt driven) (takeInput s))
  | .freeTick => .next (tick (Config.freeExt s.draws) s)

/-- The state with the command word `w` presented at the command port, so that the next step that is no Dispatch takes it
(R13; none is due after Reset). L3CORE fetches nothing (20_memory.md R76): this stands for the host's Cmd (log 1). -/
def State.withFetchWord (s : State) (nbits w : Nat) : State := { s with inputs := presented nbits w s.inputs }

end Sys2Proof.Machine
end

