-- ==== Sys2Proof/Safety.lean ====
section
/-! DEFINITION. What counts as a good state or a completed run of L3CORE, in the terms the claims use: the invariants of
10_state.md R45, the end of a run (00_scope.md R16), the single-port condition (60_exceptions.md R217) and the number of
micro-steps an operation can still take (70_reset_and_hazards.md R262). -/

namespace Sys2Proof.Machine

/-- A state that can be the end of a completed run: the sequencer idle, no callback in service, no FAULT bit set (R16). -/
def completed (s : State) : Bool := !active s && !s.insvc && decide (s.fault = 0)

/-- The decoder stands in the masked window: RequestPulse with DPHASE High or Check, AwaitAck1, AwaitAck2 or BitCapture
(R45 f). -/
def inWindow (s : State) : Bool :=
  match s.dstate with
  | .requestPulse => decide (s.dphase = phaseHigh ∨ s.dphase = phaseCheck)
  | .awaitAck1 => true
  | .awaitAck2 => true
  | .bitCapture => true
  | .idle => false
  | .checksumCheck => false
  | .done => false

/-- The decoder waits on the observer (43_decoder.md R173). -/
def decoderObserves (s : State) : Bool :=
  match s.dstate with
  | .awaitAck1 => true
  | .awaitAck2 => true
  | .bitCapture => true
  | .idle => false
  | .requestPulse => false
  | .checksumCheck => false
  | .done => false

/-- The decoder has released the wire: it stands after the switch to input (43_decoder.md R170). -/
def wireReleased (s : State) : Bool :=
  decoderObserves s || (s.dstate == .requestPulse && s.dphase == phaseCheck)

/-- The sequencer rests only in positions of R41: never in ChecksumCheck or Done, and with a phase its state has. -/
def positionOk (s : State) : Bool :=
  match s.dstate with
  | .idle => s.dphase == 0
  | .requestPulse => s.dphase != 3
  | .awaitAck1 => s.dphase == 0
  | .awaitAck2 => s.dphase == 0
  | .bitCapture => s.dphase == phaseWaitHigh || s.dphase == phaseMeasure
  | .checksumCheck => false
  | .done => false

/-- The pin is an undriven input with no pull, its port's clock on, its output latch 1: how the decoder holds the wire from
the switch to input on, and how it leaves it (43_decoder.md R170, R184). -/
def isReleased (s : State) (pin : Pin) : Prop :=
  (bankGet s.dir pin.port).getLsbD pin.index.toNat = false ∧ pinGet s.pull pin.port pin.index = .none ∧
    bankGet s.clken pin.port = true ∧ (bankGet s.odr pin.port).getLsbD pin.index.toNat = true

/-- The invariants of R45, with what makes them hold after every step. Clause (b) of R45 holds by the types (log 19). -/
structure StateInv (s : State) : Prop where
  /-- R45 (a). -/
  driven_clocked : ∀ p i : Nibble, (bankGet s.dir p).getLsbD i.toNat = true → bankGet s.clken p = true
  /-- R45 (c). -/
  enabled_bound : ∀ g : Fin 7, s.irqen[g] = true → s.bind.valid = true
  /-- R45 (d), PORTSEL. -/
  portsel_exists : ∀ i : Nibble, (bankGet s.portsel i).toNat < s.cfg.nports
  /-- R45 (d), BIND. -/
  bind_exists : s.bind.valid = true → s.bind.port.toNat < s.cfg.nports
  /-- R45 (d), DPIN. -/
  dpin_exists : s.dpin.port.toNat < s.cfg.nports
  /-- R45 (d), OPIN. -/
  opin_exists : s.opin.port.toNat < s.cfg.nports
  /-- R45 (e). -/
  one_user : s.oactive = true → s.dstate = .idle
  /-- R45 (f), and its converse: the mask is up exactly in the window. -/
  masked_window : s.imask = inWindow s
  /-- R45 (f). -/
  masked_alone : s.imask = true → s.insvc = false
  /-- R45 (g). -/
  fault_reserved : s.fault.getLsbD 0 = false ∧ s.fault.getLsbD 7 = false
  /-- R41. -/
  position : positionOk s = true
  /-- R45 (h), BITIDX. -/
  bit_bound : s.bitidx.toNat ≤ 39
  /-- R45 (h), OCNT. -/
  count_bound : s.ocnt.toNat ≤ s.omax.toNat
  /-- A running observation has polls left. -/
  count_left : s.oactive = true ∨ decoderObserves s = true → s.ocnt.toNat < s.omax.toNat
  /-- R45 (h), CNT; R42. -/
  hold_bound : s.cnt.toNat ≤ s.cfg.resetLow.toNat
  /-- The low hold has ticks left. -/
  low_left : s.dstate = .requestPulse → s.dphase = phaseLow → s.cnt.toNat < s.cfg.resetLow.toNat
  /-- The high hold has ticks left. -/
  high_left : s.dstate = .requestPulse → s.dphase = phaseHigh → s.cnt.toNat < s.cfg.startHigh.toNat
  /-- In the high hold the output latch of the wire is 1 (43_decoder.md R169). -/
  high_driven : s.dstate = .requestPulse → s.dphase = phaseHigh →
    (bankGet s.odr s.dpin.port).getLsbD s.dpin.index.toNat = true
  /-- After the switch to input the wire stays released (43_decoder.md R184). -/
  released : wireReleased s = true → isReleased s s.dpin
  /-- The decoder observes its own pin (43_decoder.md R172). -/
  own_pin : decoderObserves s = true → s.opin = s.dpin

/-- The single-port condition: every line that is armed and enabled is fed from the binding's port (60_exceptions.md
R217). -/
def singlePort (s : State) : Prop :=
  ∀ i : Nibble, bankGet s.trig i ≠ .none → s.irqen[grp i] = true → bankGet s.portsel i = s.bind.port

/-- No Dispatch is enabled (60_exceptions.md R215): every pending line is not enabled, or masked. -/
def quiet (s : State) : Prop :=
  ∀ i : Nibble, bankGet s.pend i = true → s.irqen[grp i] = true → s.imask = true ∨ s.insvc = true

/-- The commands of the first column of R226 are accepted: the handler and the foreground context. -/
def acceptsOrdinary (s : State) : Prop := s.insvc = true ∨ (s.dstate = .idle ∧ s.oactive = false)

/-- OBSERVE and READ are accepted: the foreground context (R226). -/
def acceptsBlocking (s : State) : Prop := s.insvc = false ∧ s.dstate = .idle ∧ s.oactive = false

/-- One high pulse on a pin as the environment produces it, Tick by Tick (43_decoder.md R187): the Ticks in which the line
is low, those in which it is high, and the low Tick that ends it; each says which pads are driven, the pin's among them. -/
structure Pulse where
  lows : List (List (Pin × Level))
  highs : List (List (Pin × Level))
  last : List (Pin × Level)
  deriving DecidableEq, Repr

/-- The Ticks of a pulse. -/
def pulseInputs (u : Pulse) : List Input := (u.lows ++ u.highs ++ [u.last]).map .tick

/-- The pulse drives this pin as its Ticks say, and no wait of the decoder runs to its bound (43_decoder.md R187). -/
def pulseOk (cfg : Config) (pin : Pin) (u : Pulse) : Prop :=
  (∀ d ∈ u.lows, d.lookup pin = some false) ∧ (∀ d ∈ u.highs, d.lookup pin = some true) ∧
    u.last.lookup pin = some false ∧ u.lows.length < cfg.bitTimeout.toNat ∧
    1 ≤ u.highs.length ∧ u.highs.length ≤ cfg.bitTimeout.toNat

/-- The bit a pulse stands for: its high time in microseconds against the threshold (43_decoder.md R178). -/
def pulseBit (cfg : Config) (u : Pulse) : Bool := decide (cfg.thresholdUs < u.highs.length * cfg.usPerTick)

/-- The decoder is about to wait for the high level of the bit numbered BITIDX (43_decoder.md R175, R180). -/
def awaitsPulse (s : State) : Prop :=
  s.dstate = .bitCapture ∧ s.dphase = phaseWaitHigh ∧ s.otarget = true ∧ s.omax = s.cfg.bitTimeout ∧ s.ocnt = 0

/-- How many more micro-steps the running OBSERVE or READ can take before its event, each wait running to its bound
(70_reset_and_hazards.md R262). -/
def budget (s : State) : Nat :=
  let ack := s.cfg.ackTimeout.toNat
  let bit := s.cfg.bitTimeout.toNat
  let waiting := s.omax.toNat - s.ocnt.toNat
  match s.dstate with
  | .idle => if s.oactive then waiting else 0
  | .requestPulse =>
    if s.dphase = phaseLow then (s.cfg.resetLow.toNat - s.cnt.toNat) + s.cfg.startHigh.toNat + 1 + 2 * ack + 80 * bit
    else if s.dphase = phaseHigh then (s.cfg.startHigh.toNat - s.cnt.toNat) + 1 + 2 * ack + 80 * bit
    else 1 + 2 * ack + 80 * bit
  | .awaitAck1 => waiting + ack + 80 * bit
  | .awaitAck2 => waiting + 80 * bit
  | .bitCapture =>
    if s.dphase = phaseWaitHigh then waiting + bit + 2 * (39 - s.bitidx.toNat) * bit
    else waiting + 2 * (39 - s.bitidx.toNat) * bit
  | .checksumCheck => 0
  | .done => 0

end Sys2Proof.Machine
end

