-- ==== Sys2Proof/Certificates/Slice0/Obligations.lean ====
section
/-! DEFINITION. What the provers are asked to prove of the model: one `def Obligations.<Name> : Prop` per entry of
OBLIGATIONS.json. Each docstring names the rule of spec/ the statement formalises. -/

open Sys2Proof Sys2Proof.Machine

/-! ## Encoding (30_encoding.md) -/

/-- The decoder reads back every command from its word, with every operand at every value. -/
def Obligations.DecodeOfEncode : Prop := ∀ i : Instr, decode (encode i) = .ok i

/-- Each accepted word has exactly one reading (R93): it is the word of the command read from it. -/
def Obligations.EncodeOfDecode : Prop := ∀ (w : CmdWord) (i : Instr), decode w = .ok i → encode i = w

/-- The words the decoder accepts are those of the rows of R86 with a legal `sub` (R94 c to e), and no word belongs to two
rows. -/
def Obligations.DecodeAcceptsExactlyTheTable : Prop :=
  (∀ w : CmdWord, (∃ i, decode w = .ok i) ↔ ∃ row ∈ opcodeTable, row.admits w = true) ∧
  ∀ (w : CmdWord), ∀ r ∈ opcodeTable, ∀ r' ∈ opcodeTable, w &&& r.mask = r.pattern → w &&& r'.mask = r'.pattern → r = r'

/-- Words written out in the spec's rules decode to the commands they stand for there (the examples of R110, R118, R130,
R133, R150, R166, R136). -/
def Obligations.SpecWordsDecode : Prop :=
  decode 0x1132_0000_0000_0000 = .ok (.setMode ⟨1, 3⟩ .output) ∧
  decode 0x5040_4000_0000_00A5 = .ok (.setRange ⟨0, 4⟩ 8 0xA5) ∧
  decode 0x7131_0000_0000_0000 = .ok (.setTrigger ⟨1, 3⟩ .rising) ∧
  decode 0x8130_0000_0800_1234 = .ok (.setCallback ⟨1, 3⟩ 0x08001234) ∧
  decode 0x9071_0000_0000_02BC = .ok (.observe ⟨0, 7⟩ true 700) ∧
  decode 0xA070_0000_0000_0000 = .ok (.read ⟨0, 7⟩) ∧
  decode 0xB000_0000_0000_0000 = .ok .cbReturn

/-! ## Which step comes next (00_scope.md R11, R13) -/

/-- A presented word that decodes to a command makes the step that command's Cmd step, once no Dispatch is due (R11, R13,
R95): the word is used up, everything else is the command's meaning. -/
def Obligations.StepRunsTheDecodedCommand : Prop :=
  ∀ (s : State) (w : CmdWord) (rest : List Input) (i : Instr),
    s.inputs = .cmd w :: rest → quiet s → decode w = .ok i → step s = exec i { s with inputs := rest }

/-- A word that belongs to no row of R86, or whose `sub` is out of range, faults IllegalCommand whatever the state is
(R94, R202): FAULT bit 1, response 0x1000_0000, nothing else. -/
def Obligations.IllegalWordFaults : Prop :=
  ∀ (s : State) (w : CmdWord) (rest : List Input),
    s.inputs = .cmd w :: rest → quiet s → (∀ row ∈ opcodeTable, row.admits w = false) →
    step s = .next { s with
      inputs := rest, fault := s.fault ||| 0x02, outputs := s.outputs ++ [.rsp 0x1000_0000] }

/-- L3CORE never halts (R16): every step gives a next state. -/
def Obligations.EveryStepAnswersNext : Prop := ∀ s : State, ∃ t, step s = .next t

/-- Dispatch is eager and lowest index first (R13, R212), and does what R215 and R216 say: it clears the one pending flag,
re-reads pin i of the binding's port, and on lines 0..4 invokes the callback only if the level is the one the armed edge
leads to, on lines 5..15 always. Nothing else of the block changes; a Reset that waits behind Dispatch steps waits for one
less (the model's own schedule, log 3). What the re-read decides on lines 0..4 is claimed under the single-port condition
only, as R217 and U3 of 93_implementation_defined.md ask (log 13). -/
def Obligations.DispatchServesTheLowestLine : Prop :=
  ∀ (s : State) (i : Nibble),
    bankGet s.pend i = true → s.irqen[grp i] = true → s.imask = false → s.insvc = false →
    (∀ j : Nibble, j.toNat < i.toNat → bankGet s.pend j = true → s.irqen[grp j] = false) →
    (∀ rest, s.inputs ≠ .reset 0 :: rest) →
    let expected : Prop := (bankGet s.trig i = .rising ∧ level s s.bind.port i = true) ∨
      (bankGet s.trig i = .falling ∧ level s s.bind.port i = false)
    ∃ t, step s = .next t ∧
      t = { s with inputs := afterDispatch s.inputs, pend := t.pend, insvc := t.insvc, outputs := t.outputs } ∧
      (∀ j, bankGet t.pend j = if j = i then false else bankGet s.pend j) ∧
      (5 ≤ i.toNat ∨ (singlePort s ∧ expected) → t.insvc = true ∧ t.outputs = s.outputs ++ [.cbInvoke s.bind.cb i]) ∧
      (i.toNat ≤ 4 ∧ singlePort s ∧ ¬ expected → t.insvc = false ∧ t.outputs = s.outputs)

/-- Under the single-port condition of R217 the debounce of a line 0..4 looks at the pin that feeds the line: if that pin
no longer shows the level the armed edge leads to, the Dispatch puts out nothing. -/
def Obligations.DebounceLooksAtTheSourcePin : Prop :=
  ∀ (s : State) (i : Nibble), singlePort s → i.toNat ≤ 4 → bankGet s.trig i ≠ .none → dispatchable s i = true →
    (level s (bankGet s.portsel i) i = decide (bankGet s.trig i = .rising) →
      (dispatchLine i s).outputs = s.outputs ++ [.cbInvoke s.bind.cb i] ∧ (dispatchLine i s).insvc = true) ∧
    (level s (bankGet s.portsel i) i ≠ decide (bankGet s.trig i = .rising) →
      (dispatchLine i s).outputs = s.outputs ∧ (dispatchLine i s).insvc = false)

/-- Masking defers and never discards (R211, R218): while IMASK or INSVC is 1 the next step is no Dispatch, and no step but
Reset clears a pending flag. -/
def Obligations.MaskingDefersNeverDiscards : Prop :=
  ∀ s t : State, (s.imask = true ∨ s.insvc = true) → step s = .next t →
    (∀ line, nextAction s ≠ .dispatch line) ∧
    (nextAction s ≠ .reset → ∀ i, bankGet s.pend i = true → bankGet t.pend i = true)

/-- A pending flag is cleared only by the Dispatch of its own line and by Reset (R28). -/
def Obligations.PendingClearedOnlyByItsDispatch : Prop :=
  ∀ (s t : State) (i : Nibble), step s = .next t → bankGet s.pend i = true → bankGet t.pend i = false →
    nextAction s = .dispatch i ∨ nextAction s = .reset

/-! ## Whole-machine rules -/

/-- Nothing but Reset clears a FAULT bit (R36, R201). -/
def Obligations.FaultBitsAreSticky : Prop :=
  ∀ (s t : State) (b : Nat), step s = .next t → nextAction s ≠ .reset → s.fault.getLsbD b = true → t.fault.getLsbD b = true

/-- No step but Reset turns a port clock off, disables a request line or removes the binding (R26, R31, R33). -/
def Obligations.EnablesStayOn : Prop :=
  ∀ s t : State, step s = .next t → nextAction s ≠ .reset →
    (∀ p, bankGet s.clken p = true → bankGet t.clken p = true) ∧
    (∀ g : Fin 7, s.irqen[g] = true → t.irqen[g] = true) ∧
    (s.bind.valid = true → t.bind.valid = true)

/-- No command writes PADIN, PREV, PEND or IMASK (R24, R28, R30, R34), and none touches the parameters or what is still to
be presented. -/
def Obligations.NoCommandWritesTheHiddenState : Prop :=
  ∀ (i : Instr) (s t : State), exec i s = .next t →
    t.padin = s.padin ∧ t.prev = s.prev ∧ t.pend = s.pend ∧ t.imask = s.imask ∧
      t.cfg = s.cfg ∧ t.inputs = s.inputs ∧ t.draws = s.draws

/-- No command moves the decoder while it runs (R186): as long as the sequencer is active, a command leaves its position,
its counters, its pin and the frame alone. -/
def Obligations.NoCommandMovesARunningSequencer : Prop :=
  ∀ (i : Instr) (s t : State), (s.dstate ≠ .idle ∨ s.oactive = true) → exec i s = .next t →
    t.dstate = s.dstate ∧ t.dphase = s.dphase ∧ t.bitidx = s.bitidx ∧ t.oactive = s.oactive ∧ t.cnt = s.cnt ∧
      t.dpin = s.dpin ∧ t.opin = s.opin ∧ t.otarget = s.otarget ∧ t.omax = s.omax ∧ t.ocnt = s.ocnt ∧ t.frame = s.frame

/-- While IMASK is 1 every command is refused (R34), with no effect but the fault's. -/
def Obligations.MaskedWindowRefusesEveryCommand : Prop :=
  ∀ (s : State) (i : Instr), StateInv s → s.imask = true → ∃ c : FaultCode,
    exec i s = .next { s with
      fault := s.fault ||| ((1 : Byte) <<< (faultNumber c).toNat)
      outputs := s.outputs ++ [.rsp (faultNumber c ++ (0 : BitVec 28))] }

/-! ## Command faults (60_exceptions.md R200 to R208) -/

/-- A pin operand whose port is not below NPORTS faults InvalidPin, for every command with a pin operand, before any other
check (R61, R203, R208). -/
def Obligations.InvalidPinIsRefused : Prop :=
  ∀ (s : State) (i : Instr) (pin : Pin), i.pin? = some pin → s.cfg.nports ≤ pin.port.toNat →
    exec i s = .next { s with fault := s.fault ||| 0x04, outputs := s.outputs ++ [.rsp 0x2000_0000] }

/-- A range that leaves its port faults RangeOverflow, writes nothing and never wraps (R68, R204). -/
def Obligations.RangeOverflowIsRefused : Prop :=
  ∀ (s : State) (pin : Pin) (count : BitVec 5) (value : Half),
    pin.port.toNat < s.cfg.nports → 16 < pin.index.toNat + count.toNat →
    exec (.setRange pin count value) s =
      .next { s with fault := s.fault ||| 0x08, outputs := s.outputs ++ [.rsp 0x3000_0000] } ∧
    exec (.getRange pin count) s =
      .next { s with fault := s.fault ||| 0x08, outputs := s.outputs ++ [.rsp 0x3000_0000] }

/-- The acceptance table of R226, row by row, for commands that pass the checks on the word: what is not accepted faults
Busy and changes nothing else; what is accepted raises no Busy. CB_RETURN has a statement of its own. -/
def Obligations.AcceptanceByContext : Prop :=
  ∀ (s : State) (i : Instr), i ≠ .cbReturn → i.wellFormed s.cfg.nports = true →
    let blocking : Prop := (∃ pin b m, i = .observe pin b m) ∨ (∃ pin, i = .read pin)
    let accepted : Prop := if s.insvc = true then ¬ blocking else s.dstate = .idle ∧ s.oactive = false
    (¬ accepted →
      exec i s = .next { s with fault := s.fault ||| 0x10, outputs := s.outputs ++ [.rsp 0x4000_0000] }) ∧
    (accepted → ∃ t, exec i s = .next t ∧ t.fault.getLsbD 4 = s.fault.getLsbD 4)

/-- A level command to a port whose clock is off faults ClockOff when the checks before pass, and SET_MODE, READ,
SET_TRIGGER, SET_CALLBACK and CB_RETURN never raise it (R206, R208). -/
def Obligations.ClockOffIsRefused : Prop :=
  (∀ (s : State) (pin : Pin) (i : Instr),
    (((i = .get pin ∨ i = .toggle pin ∨ (∃ b, i = .set pin b) ∨
        (∃ n v, i = .setRange pin n v ∧ pin.index.toNat + n.toNat ≤ 16) ∨
        (∃ n, i = .getRange pin n ∧ pin.index.toNat + n.toNat ≤ 16)) ∧ acceptsOrdinary s) ∨
      ((∃ b m, i = .observe pin b m) ∧ acceptsBlocking s)) →
    pin.port.toNat < s.cfg.nports → bankGet s.clken pin.port = false →
    exec i s = .next { s with fault := s.fault ||| 0x20, outputs := s.outputs ++ [.rsp 0x5000_0000] }) ∧
  (∀ (s t : State) (i : Instr),
    (i = .cbReturn ∨ ∃ pin, i = .read pin ∨ (∃ m, i = .setMode pin m) ∨ (∃ m, i = .setTrigger pin m) ∨
      (∃ k, i = .setCallback pin k)) →
    exec i s = .next t → t.fault.getLsbD 5 = s.fault.getLsbD 5)

/-- A CB_RETURN with no callback in service faults NotInService, whatever the sequencer does (R207, R226). -/
def Obligations.StrayCallbackReturnIsRefused : Prop :=
  ∀ s : State, s.insvc = false →
    exec .cbReturn s = .next { s with fault := s.fault ||| 0x40, outputs := s.outputs ++ [.rsp 0x6000_0000] }

/-! ## GPIO commands (40_gpio.md) -/

/-- SET_MODE (R110, R111): the port's clock goes on, the pin's direction and pull become what the mode says, at once; every
other pin and every other register keeps its value. -/
def Obligations.SetModeResult : Prop :=
  ∀ (s : State) (pin : Pin) (mode : PinMode), pin.port.toNat < s.cfg.nports → acceptsOrdinary s →
    ∃ t, exec (.setMode pin mode) s = .next t ∧
      t = { s with clken := t.clken, dir := t.dir, pull := t.pull, outputs := s.outputs ++ [.rsp 0] } ∧
      (∀ p, bankGet t.clken p = if p = pin.port then true else bankGet s.clken p) ∧
      (∀ p i : Nibble, (bankGet t.dir p).getLsbD i.toNat =
        if p = pin.port ∧ i = pin.index then decide (mode = .output) else (bankGet s.dir p).getLsbD i.toNat) ∧
      (∀ p i : Nibble, pinGet t.pull p i =
        if p = pin.port ∧ i = pin.index then
          (match mode with | .pullUp => .up | .pullDown => .down | .reset => .none | .input => .none | .output => .none)
        else pinGet s.pull p i)

/-- SET (R112): the one ODR bit becomes the level, whatever the pin's direction; every other bit and register is kept. -/
def Obligations.SetResult : Prop :=
  ∀ (s : State) (pin : Pin) (b : Level), pin.port.toNat < s.cfg.nports → acceptsOrdinary s →
    bankGet s.clken pin.port = true →
    ∃ t, exec (.set pin b) s = .next t ∧ t = { s with odr := t.odr, outputs := s.outputs ++ [.rsp 0] } ∧
      ∀ p i : Nibble, (bankGet t.odr p).getLsbD i.toNat =
        if p = pin.port ∧ i = pin.index then b else (bankGet s.odr p).getLsbD i.toNat

/-- GET (R114, R64): the response carries the latch of an output pin, the sampled pad of any other; no state changes. -/
def Obligations.GetResult : Prop :=
  ∀ (s : State) (pin : Pin), pin.port.toNat < s.cfg.nports → acceptsOrdinary s → bankGet s.clken pin.port = true →
    exec (.get pin) s = .next { s with outputs := s.outputs ++ [.rsp
      (if (if (bankGet s.dir pin.port).getLsbD pin.index.toNat then (bankGet s.odr pin.port).getLsbD pin.index.toNat
        else pinGet s.padin pin.port pin.index) then 1 else 0)] }

/-- TOGGLE (R116): the one ODR bit is inverted, whatever the pad shows; every other bit and register is kept. -/
def Obligations.ToggleResult : Prop :=
  ∀ (s : State) (pin : Pin), pin.port.toNat < s.cfg.nports → acceptsOrdinary s → bankGet s.clken pin.port = true →
    ∃ t, exec (.toggle pin) s = .next t ∧ t = { s with odr := t.odr, outputs := s.outputs ++ [.rsp 0] } ∧
      ∀ p i : Nibble, (bankGet t.odr p).getLsbD i.toNat =
        if p = pin.port ∧ i = pin.index then !(bankGet s.odr p).getLsbD i.toNat else (bankGet s.odr p).getLsbD i.toNat

/-- SET_RANGE (R118, R66): bit k of the value goes to pin (p, i + k) for k < count; bits of the value from `count` on are
dropped, pins outside the range keep their ODR bits, and so does every other register; count = 0 writes nothing. -/
def Obligations.SetRangeResult : Prop :=
  ∀ (s : State) (pin : Pin) (count : BitVec 5) (value : Half), pin.port.toNat < s.cfg.nports →
    pin.index.toNat + count.toNat ≤ 16 → acceptsOrdinary s → bankGet s.clken pin.port = true →
    ∃ t, exec (.setRange pin count value) s = .next t ∧ t = { s with odr := t.odr, outputs := s.outputs ++ [.rsp 0] } ∧
      ∀ p j : Nibble, (bankGet t.odr p).getLsbD j.toNat =
        if p = pin.port ∧ pin.index.toNat ≤ j.toNat ∧ j.toNat < pin.index.toNat + count.toNat then
          value.getLsbD (j.toNat - pin.index.toNat)
        else (bankGet s.odr p).getLsbD j.toNat

/-- GET_RANGE (R120, R66): bit k of the response is LEVEL(p, i + k) for k < count, every higher bit zero; no state
changes. -/
def Obligations.GetRangeResult : Prop :=
  ∀ (s : State) (pin : Pin) (count : BitVec 5), pin.port.toNat < s.cfg.nports →
    pin.index.toNat + count.toNat ≤ 16 → acceptsOrdinary s → bankGet s.clken pin.port = true →
    ∃ data : Half, exec (.getRange pin count) s = .next { s with outputs := s.outputs ++ [.rsp ((0 : Half) ++ data)] } ∧
      ∀ k : Nat, k < 16 → data.getLsbD k =
        (decide (k < count.toNat) && level s pin.port (BitVec.ofNat 4 (pin.index.toNat + k)))

/-- The range round trip (R120): what SET_RANGE writes to output pins, GET_RANGE reads back at once, masked to `count`
bits. -/
def Obligations.RangeRoundTrip : Prop :=
  ∀ (s : State) (pin : Pin) (count : BitVec 5) (value : Half), pin.port.toNat < s.cfg.nports →
    pin.index.toNat + count.toNat ≤ 16 → acceptsOrdinary s → bankGet s.clken pin.port = true →
    (∀ k, k < count.toNat → (bankGet s.dir pin.port).getLsbD (pin.index.toNat + k) = true) →
    ∃ (t u : State) (data : Half), exec (.setRange pin count value) s = .next t ∧ exec (.getRange pin count) t = .next u ∧
      u.outputs = s.outputs ++ [.rsp 0, .rsp ((0 : Half) ++ data)] ∧
      ∀ k : Nat, k < 16 → data.getLsbD k = (decide (k < count.toNat) && value.getLsbD k)

/-- The same command twice in a row (R72): SET_MODE leaves the same state as once, TOGGLE restores the ODR. -/
def Obligations.SecondSetModeAndSecondToggle : Prop :=
  ∀ (s : State) (pin : Pin) (mode : PinMode), pin.port.toNat < s.cfg.nports → acceptsOrdinary s →
    (∃ t, exec (.setMode pin mode) s = .next t ∧
      exec (.setMode pin mode) t = .next { t with outputs := t.outputs ++ [.rsp 0] }) ∧
    (bankGet s.clken pin.port = true → ∃ t u, exec (.toggle pin) s = .next t ∧ exec (.toggle pin) t = .next u ∧
      u = { s with outputs := s.outputs ++ [.rsp 0, .rsp 0] })

/-! ## Edge commands and the edge detector (41_edge.md) -/

/-- SET_TRIGGER (R130): the trigger of the bit index changes, whichever port was named; nothing else does. -/
def Obligations.SetTriggerResult : Prop :=
  ∀ (s : State) (pin : Pin) (mode : TriggerMode), pin.port.toNat < s.cfg.nports → acceptsOrdinary s →
    ∃ t, exec (.setTrigger pin mode) s = .next t ∧ t = { s with trig := t.trig, outputs := s.outputs ++ [.rsp 0] } ∧
      ∀ i, bankGet t.trig i = if i = pin.index then mode else bankGet s.trig i

/-- SET_CALLBACK (R133, R210): the port selection of the index, enable and priority of its group, and the one binding; the
group is the index itself for 0..4, 5 for 5..9 and 6 for 10..15. Every other line, group and register is kept. -/
def Obligations.SetCallbackResult : Prop :=
  ∀ (s : State) (pin : Pin) (token : BitVec 32), pin.port.toNat < s.cfg.nports → acceptsOrdinary s →
    let inGroup (g : Fin 7) : Prop :=
      (pin.index.toNat ≤ 4 ∧ g.val = pin.index.toNat) ∨ (5 ≤ pin.index.toNat ∧ pin.index.toNat ≤ 9 ∧ g.val = 5) ∨
        (10 ≤ pin.index.toNat ∧ g.val = 6)
    ∃ t, exec (.setCallback pin token) s = .next t ∧
      t = { s with
        portsel := t.portsel, irqen := t.irqen, irqprio := t.irqprio, bind := ⟨true, pin.port, pin.index, token⟩
        outputs := s.outputs ++ [.rsp 0] } ∧
      (∀ i, bankGet t.portsel i = if i = pin.index then pin.port else bankGet s.portsel i) ∧
      (∀ g : Fin 7, inGroup g → t.irqen[g] = true ∧ t.irqprio[g] = s.cfg.irqPrio) ∧
      (∀ g : Fin 7, ¬ inGroup g → t.irqen[g] = s.irqen[g] ∧ t.irqprio[g] = s.irqprio[g])

/-- CB_RETURN (R136, R220): INSVC is cleared and nothing is restored. -/
def Obligations.CallbackReturnResult : Prop :=
  ∀ s : State, s.insvc = true →
    exec .cbReturn s = .next { s with insvc := false, outputs := s.outputs ++ [.rsp 0] }

/-- The edge detector of a Tick (R139), on every line: PREV becomes the level that the line's pin shows after the Tick's
pad sampling and micro-step, and PEND is set by an edge of the armed direction and never cleared. -/
def Obligations.EdgeDetectorOfATick : Prop :=
  ∀ (s : State) (driven : List (Pin × Level)) (rest : List Input), s.inputs = .tick driven :: rest → quiet s →
    ∃ t, step s = .next t ∧ ∀ i : Nibble,
      let now := level t (bankGet s.portsel i) i
      bankGet t.prev i = now ∧
      (bankGet t.pend i = true ↔ bankGet s.pend i = true ∨
        (bankGet s.trig i = .rising ∧ bankGet s.prev i = false ∧ now = true) ∨
        (bankGet s.trig i = .falling ∧ bankGet s.prev i = true ∧ now = false))

/-! ## Ticks (00_scope.md R12, 20_memory.md R63) -/

/-- Pad sampling (R63): in a Tick every pad of every port shows the external drive, else its pull as it stood before the
Tick, whatever DIR and CLKEN are. Of a floating pad the statement says nothing: it is a draw. -/
def Obligations.PadSamplingOfATick : Prop :=
  ∀ (s : State) (driven : List (Pin × Level)) (rest : List Input), s.inputs = .tick driven :: rest → quiet s →
    ∃ t, step s = .next t ∧ ∀ p i : Nibble, p.toNat < s.cfg.nports →
      (∀ b, driven.lookup ⟨p, i⟩ = some b → pinGet t.padin p i = b) ∧
      (driven.lookup ⟨p, i⟩ = none → pinGet s.pull p i = .up → pinGet t.padin p i = true) ∧
      (driven.lookup ⟨p, i⟩ = none → pinGet s.pull p i = .down → pinGet t.padin p i = false)

/-- A Tick with an active sequencer and no callback in service performs pad sampling, one micro-step and the edge detector,
in this order (R12). -/
def Obligations.TickPerformsOneMicroStep : Prop :=
  ∀ (s : State) (driven : List (Pin × Level)) (rest : List Input), s.inputs = .tick driven :: rest → quiet s →
    (s.dstate ≠ .idle ∨ s.oactive = true) → s.insvc = false →
    step s = .next (detectEdges (microStep (samplePads (drivenExt driven) { s with inputs := rest })))

/-- A Tick never writes the trigger, the port selection, the request lines, the binding, INSVC, FAULT or DPIN; and while a
callback is in service, or with the sequencer idle, it writes nothing but PADIN, PEND and PREV (R12, R158). -/
def Obligations.TickFrame : Prop :=
  ∀ (s : State) (driven : List (Pin × Level)) (rest : List Input), s.inputs = .tick driven :: rest → quiet s →
    ∃ t, step s = .next t ∧
      (t.trig = s.trig ∧ t.portsel = s.portsel ∧ t.irqen = s.irqen ∧ t.irqprio = s.irqprio ∧ t.bind = s.bind ∧
        t.insvc = s.insvc ∧ t.fault = s.fault ∧ t.dpin = s.dpin ∧ t.cfg = s.cfg ∧ t.inputs = rest) ∧
      (s.insvc = true ∨ (s.dstate = .idle ∧ s.oactive = false) →
        t = { s with
          inputs := rest, draws := s.draws + 1, padin := t.padin, pend := t.pend, prev := t.prev })

/-! ## The observer (42_observer.md) -/

/-- OBSERVE with max_ticks ≥ 1 (R150): the observer's registers are loaded and it starts; nothing else changes. -/
def Obligations.ObserveStarts : Prop :=
  ∀ (s : State) (pin : Pin) (target : Level) (maxTicks : Half), pin.port.toNat < s.cfg.nports → acceptsBlocking s →
    bankGet s.clken pin.port = true → maxTicks ≠ 0 →
    exec (.observe pin target maxTicks) s = .next { s with
      opin := pin, otarget := target, omax := maxTicks, ocnt := 0, oactive := true, outputs := s.outputs ++ [.rsp 0] }

/-- OBSERVE with max_ticks = 0 (R151): no register changes, the response is OK, and OBS_DONE(0) is put out in the same
step. That the response stands before the event in the model's list of outputs is the model's choice (log 8). -/
def Obligations.ObserveOfZeroTicksEndsAtOnce : Prop :=
  ∀ (s : State) (pin : Pin) (target : Level), pin.port.toNat < s.cfg.nports → acceptsBlocking s →
    bankGet s.clken pin.port = true →
    exec (.observe pin target 0) s = .next { s with outputs := s.outputs ++ [.rsp 0, .obsDone 0] }

/-- The micro-step of a stand-alone observation (R155, R156): OCNT is incremented, the match is tested before the bound; a
match ends with the count, the bound with 0, and either way OACTIVE goes to 0 and OBS_DONE is put out. -/
def Obligations.StandAloneObserverMicroStep : Prop :=
  ∀ s : State, s.dstate = .idle → s.oactive = true →
    (level s s.opin.port s.opin.index = s.otarget →
      microStep s = { s with
        ocnt := s.ocnt + 1, oactive := false, outputs := s.outputs ++ [.obsDone (s.ocnt + 1)] }) ∧
    (level s s.opin.port s.opin.index ≠ s.otarget → s.omax.toNat ≤ (s.ocnt + 1).toNat →
      microStep s = { s with ocnt := s.ocnt + 1, oactive := false, outputs := s.outputs ++ [.obsDone 0] }) ∧
    (level s s.opin.port s.opin.index ≠ s.otarget → (s.ocnt + 1).toNat < s.omax.toNat →
      microStep s = { s with ocnt := s.ocnt + 1 })

/-- An observation of a pin that the environment already holds at the target ends at its first Tick with result 1, never
0 (R155, LAB3's sixth testable property). -/
def Obligations.ObservePinAtTargetReturnsOne : Prop :=
  ∀ (s : State) (driven : List (Pin × Level)) (rest : List Input), s.inputs = .tick driven :: rest → quiet s →
    s.dstate = .idle → s.oactive = true → s.insvc = false → s.ocnt = 0 → s.opin.port.toNat < s.cfg.nports →
    (bankGet s.dir s.opin.port).getLsbD s.opin.index.toNat = false → driven.lookup s.opin = some s.otarget →
    ∃ t, step s = .next t ∧ t.outputs = s.outputs ++ [.obsDone 1] ∧ t.oactive = false

/-! ## The decoder (43_decoder.md) -/

/-- READ (R166): DPIN, a cleared FRAME, BITIDX 0, the pin an output with no pull driving low, its port's clock on, and the
decoder at the start of RequestPulse; nothing else changes, IMASK included. -/
def Obligations.ReadStarts : Prop :=
  ∀ (s : State) (pin : Pin), pin.port.toNat < s.cfg.nports → acceptsBlocking s →
    ∃ t, exec (.read pin) s = .next t ∧
      t = { s with
        dpin := pin, frame := #v[0, 0, 0, 0, 0], bitidx := 0, clken := t.clken, dir := t.dir, pull := t.pull
        odr := t.odr, cnt := 0, dstate := .requestPulse, dphase := 0, outputs := s.outputs ++ [.rsp 0] } ∧
      (∀ p, bankGet t.clken p = if p = pin.port then true else bankGet s.clken p) ∧
      ∀ p i : Nibble,
        (bankGet t.dir p).getLsbD i.toNat =
          (if p = pin.port ∧ i = pin.index then true else (bankGet s.dir p).getLsbD i.toNat) ∧
        pinGet t.pull p i = (if p = pin.port ∧ i = pin.index then .none else pinGet s.pull p i) ∧
        (bankGet t.odr p).getLsbD i.toNat =
          (if p = pin.port ∧ i = pin.index then false else (bankGet s.odr p).getLsbD i.toNat)

/-- The reset-drive (R168) and its end (R169): the line stays low until CNT reaches RESET_LOW_TICKS; then the masked
window opens, the line is driven high and the high hold starts. -/
def Obligations.LowHoldMicroStep : Prop :=
  ∀ s : State, s.dstate = .requestPulse → s.dphase = 0 →
    ((s.cnt + 1).toNat < s.cfg.resetLow.toNat → microStep s = { s with cnt := s.cnt + 1 }) ∧
    (s.cfg.resetLow.toNat ≤ (s.cnt + 1).toNat →
      microStep s = { s with cnt := 0, dphase := 1, imask := true, odr := (microStep s).odr } ∧
      ∀ p i : Nibble, (bankGet (microStep s).odr p).getLsbD i.toNat =
        if p = s.dpin.port ∧ i = s.dpin.index then true else (bankGet s.odr p).getLsbD i.toNat)

/-- The micro-step of the high hold (R170): CNT counts to START_HIGH_TICKS, then the pin becomes an input with no pull. What
the pad shows during the hold is not said here: a callback in the low hold may have changed the pin (R255). -/
def Obligations.HighHoldMicroStep : Prop :=
  ∀ s : State, s.dstate = .requestPulse → s.dphase = 1 →
    ((s.cnt + 1).toNat < s.cfg.startHigh.toNat → microStep s = { s with cnt := s.cnt + 1 }) ∧
    (s.cfg.startHigh.toNat ≤ (s.cnt + 1).toNat →
      microStep s = { s with
        cnt := s.cnt + 1, dphase := 2, clken := (microStep s).clken, dir := (microStep s).dir
        pull := (microStep s).pull } ∧
      (∀ p, bankGet (microStep s).clken p = if p = s.dpin.port then true else bankGet s.clken p) ∧
      ∀ p i : Nibble,
        (bankGet (microStep s).dir p).getLsbD i.toNat =
          (if p = s.dpin.port ∧ i = s.dpin.index then false else (bankGet s.dir p).getLsbD i.toNat) ∧
        pinGet (microStep s).pull p i = (if p = s.dpin.port ∧ i = s.dpin.index then .none else pinGet s.pull p i))

/-- The check after the release (R171, R172, R183): a line still high ends the decode NotResponding, with the window closed;
a low line starts the wait for the first acknowledge level. That the whole event word is 2, every data field zero, is R183's
decision D29 where U5 records LAB3 as open, taken over as the model's convention (log 16). -/
def Obligations.ReleaseCheckMicroStep : Prop :=
  ∀ s : State, s.dstate = .requestPulse → s.dphase = 2 →
    (level s s.dpin.port s.dpin.index = true → microStep s = { s with
      imask := false, dstate := .idle, dphase := 0, outputs := s.outputs ++ [.readDone 2] }) ∧
    (level s s.dpin.port s.dpin.index = false → microStep s = { s with
      dstate := .awaitAck1, dphase := 0, opin := s.dpin, otarget := true, omax := s.cfg.ackTimeout, ocnt := 0 })

/-- The waits of the decoder (R155, R173) go on below the bound and end in Timeout at the bound (R174 to R177): window
closed, FRAME kept (R183). That the whole event word is 1, every data field zero, is R183's decision D29 where U5 records LAB3
as open, taken over as the model's convention (log 16). -/
def Obligations.DecoderWaitGoesOnOrTimesOut : Prop :=
  ∀ s : State, decoderObserves s = true → positionOk s = true → level s s.opin.port s.opin.index ≠ s.otarget →
    ((s.ocnt + 1).toNat < s.omax.toNat → microStep s = { s with ocnt := s.ocnt + 1 }) ∧
    (s.omax.toNat ≤ (s.ocnt + 1).toNat → microStep s = { s with
      ocnt := s.ocnt + 1, imask := false, dstate := .idle, dphase := 0, outputs := s.outputs ++ [.readDone 1] })

/-- The decoder's successful waits that only move it on: AwaitAck1 to AwaitAck2 (R174), AwaitAck2 to the first bit (R175),
WaitHigh to Measure (R176). -/
def Obligations.DecoderWaitSucceeds : Prop :=
  ∀ s : State, level s s.opin.port s.opin.index = s.otarget → s.ocnt + 1 ≠ 0 →
    (s.dstate = .awaitAck1 → microStep s = { s with
      dstate := .awaitAck2, opin := s.dpin, otarget := false, omax := s.cfg.ackTimeout, ocnt := 0 }) ∧
    (s.dstate = .awaitAck2 → microStep s = { s with
      dstate := .bitCapture, dphase := 0, bitidx := 0
      opin := s.dpin, otarget := true, omax := s.cfg.bitTimeout, ocnt := 0 }) ∧
    (s.dstate = .bitCapture → s.dphase = 0 → microStep s = { s with
      dphase := 1, opin := s.dpin, otarget := false, omax := s.cfg.bitTimeout, ocnt := 0 })

/-- A measured bit (R177 to R180), before the last: it is 1 iff r × US_PER_TICK > THRESHOLD_US, it is shifted into byte
BITIDX div 8 from the right, and the decoder waits for the next pulse. -/
def Obligations.MeasuredBitIsShiftedIn : Prop :=
  ∀ s : State, s.dstate = .bitCapture → s.dphase = 1 → level s s.opin.port s.opin.index = s.otarget →
    s.ocnt + 1 ≠ 0 → s.bitidx.toNat < 39 →
    let bit : Byte := if s.cfg.thresholdUs < (s.ocnt + 1).toNat * s.cfg.usPerTick then 1 else 0
    ∃ t, microStep s = t ∧
      t = { s with
        frame := t.frame, bitidx := s.bitidx + 1, dphase := 0
        opin := s.dpin, otarget := true, omax := s.cfg.bitTimeout, ocnt := 0 } ∧
      ∀ k : Fin 5, t.frame[k] = if k.val = s.bitidx.toNat / 8 then (s.frame[k] <<< 1) ||| bit else s.frame[k]

/-- The fortieth bit (R180 to R182, R98): the window closes and READ_DONE is put out in the same Tick, with the status the
checksum gives, bytes 0 to 3, and humidity and temperature in tenths, OK and ChecksumMismatch alike. -/
def Obligations.FortiethBitDeliversTheReading : Prop :=
  ∀ s : State, s.dstate = .bitCapture → s.dphase = 1 → level s s.opin.port s.opin.index = s.otarget →
    s.ocnt + 1 ≠ 0 → s.bitidx = 39 →
    let bit : Byte := if s.cfg.thresholdUs < (s.ocnt + 1).toNat * s.cfg.usPerTick then 1 else 0
    ∃ (f : Vector Byte 5) (e : BitVec 64),
      (∀ k : Fin 5, f[k] = if k.val = 4 then (s.frame[k] <<< 1) ||| bit else s.frame[k]) ∧
      microStep s = { s with
        frame := f, ocnt := s.ocnt + 1, imask := false, dstate := .idle, dphase := 0
        outputs := s.outputs ++ [.readDone e] } ∧
      (e.extractLsb' 0 2).toNat =
        (if f[4].toNat = (f[0].toNat + f[1].toNat + f[2].toNat + f[3].toNat) % 256 then 0 else 3) ∧
      e.extractLsb' 2 8 = f[0] ∧ e.extractLsb' 10 8 = f[1] ∧ e.extractLsb' 18 8 = f[2] ∧ e.extractLsb' 26 8 = f[3] ∧
      (e.extractLsb' 34 12).toNat = 10 * f[0].toNat + f[1].toNat ∧
      (e.extractLsb' 46 12).toNat = 10 * f[2].toNat + f[3].toNat ∧ e.extractLsb' 58 6 = 0

/-- One high pulse, Tick by Tick, is one captured bit (R173, R176 to R180), in every state of the invariant that waits for
a pulse before the last: after exactly its Ticks the decoder waits for the next one, nothing has been put out, and only
the byte being filled has changed. -/
def Obligations.OnePulseIsOneBit : Prop :=
  ∀ (s : State) (u : Pulse) (rest : List Input), StateInv s → awaitsPulse s → s.bitidx.toNat < 39 →
    pulseOk s.cfg s.dpin u → s.inputs = pulseInputs u ++ rest →
    ∃ t, core.run (u.lows.length + u.highs.length + 1) s = .next t ∧ t.inputs = rest ∧ StateInv t ∧ awaitsPulse t ∧
      t.bitidx = s.bitidx + 1 ∧ t.cfg = s.cfg ∧ t.dpin = s.dpin ∧ t.outputs = s.outputs ∧
      ∀ k : Fin 5, t.frame[k] =
        if k.val = s.bitidx.toNat / 8 then (s.frame[k] <<< 1) ||| (if pulseBit s.cfg u then 1 else 0) else s.frame[k]

/-- Forty pulses decode bit-exact, MSB first (LAB3's first testable property; R67, R178 to R182, R187): whatever the
forty high times and the gaps are within the bounds, the Reading delivered is that of the frame whose bit 7 - (n mod 8) of
byte n div 8 is the bit of the n-th pulse. -/
def Obligations.FortyPulsesDecodeBitExact : Prop :=
  ∀ (s : State) (us : List Pulse) (rest : List Input), StateInv s → awaitsPulse s → s.bitidx = 0 → us.length = 40 →
    (∀ u ∈ us, pulseOk s.cfg s.dpin u) → s.inputs = us.flatMap pulseInputs ++ rest →
    ∃ (n : Nat) (t : State) (f : Vector Byte 5), core.run n s = .next t ∧ t.inputs = rest ∧ t.dstate = .idle ∧
      t.imask = false ∧ t.frame = f ∧ t.outputs = s.outputs ++ [.readDone (frameWord f)] ∧
      ∀ (n : Nat) (h : n < us.length), (f.getD (n / 8) 0).getLsbD (7 - n % 8) = pulseBit s.cfg us[n]

/-! ## Reset and invariants (70_reset_and_hazards.md, 10_state.md R45) -/

/-- The Reset step (R240), at any point of a run: every element of the state but PADIN and PREV goes to zero, no event is
put out, whatever was running. A Reset asserted with a positive `defer` waits for due Dispatch steps (log 3). -/
def Obligations.ResetStepValues : Prop :=
  ∀ (s : State) (defer : Nat) (rest : List Input), s.inputs = .reset defer :: rest → (defer = 0 ∨ quiet s) →
    ∃ t, step s = .next t ∧
      (∀ p, bankGet t.dir p = 0 ∧ bankGet t.odr p = 0 ∧ bankGet t.clken p = false ∧ ∀ i, pinGet t.pull p i = .none) ∧
      (∀ i, bankGet t.trig i = .none ∧ bankGet t.pend i = false ∧ bankGet t.portsel i = 0) ∧
      (∀ g : Fin 7, t.irqen[g] = false ∧ t.irqprio[g] = 0) ∧
      t.bind = ⟨false, 0, 0, 0⟩ ∧ t.imask = false ∧ t.insvc = false ∧ t.fault = 0 ∧ t.dpin = ⟨0, 0⟩ ∧
      t.dstate = .idle ∧ t.dphase = 0 ∧ t.bitidx = 0 ∧ t.oactive = false ∧ t.cnt = 0 ∧ t.opin = ⟨0, 0⟩ ∧
      t.otarget = false ∧ t.omax = 0 ∧ t.ocnt = 0 ∧ (∀ k : Fin 5, t.frame[k] = 0) ∧
      t.outputs = s.outputs ∧ t.inputs = rest ∧ t.cfg = s.cfg

/-- The state right after Reset (R242): foreground, not masked, no line can be dispatched, no command but CB_RETURN is
turned away. -/
def Obligations.ResetStateIsForegroundAndQuiet : Prop :=
  context State.reset = .foreground ∧ State.reset.imask = false ∧ (∀ g : Fin 7, State.reset.irqen[g] = false) ∧
    quiet State.reset ∧ acceptsOrdinary State.reset ∧ acceptsBlocking State.reset ∧ State.reset.fault = 0

/-- The invariant holds right after Reset. -/
def Obligations.InvariantHoldsAtReset : Prop := StateInv State.reset

/-- Every step keeps the invariant: the clauses of R45, with what makes them inductive. Clause (h) for CNT rests on the
constraint START_HIGH_TICKS ≤ RESET_LOW_TICKS, which is the model's inference from R42 (log 11). -/
def Obligations.StepKeepsInvariant : Prop := ∀ s t : State, StateInv s → step s = .next t → StateInv t

/-- What a decode leaves behind (R184): whenever a step other than Reset ends a decode, OK, mismatch or failure, DPIN is an
input with no pull, its port's clock is on, its ODR bit is 1 and IMASK is 0. -/
def Obligations.DecodeLeavesTheWireReleased : Prop :=
  ∀ s t : State, StateInv s → step s = .next t → nextAction s ≠ .reset → s.dstate ≠ .idle → t.dstate = .idle →
    t.dpin = s.dpin ∧ isReleased t t.dpin ∧ t.imask = false ∧ t.dphase = 0

/-- A READ starts with exactly the micro-steps of R262 before it. -/
def Obligations.ReadStartsWithTheBound : Prop :=
  ∀ (s t : State) (pin : Pin), pin.port.toNat < s.cfg.nports → acceptsBlocking s → exec (.read pin) s = .next t →
    budget t = s.cfg.resetLow.toNat + s.cfg.startHigh.toNat + 1 + 2 * s.cfg.ackTimeout.toNat + 80 * s.cfg.bitTimeout.toNat

/-- Every micro-step of an active sequencer uses up at least one of the micro-steps it has left (R262). -/
def Obligations.MicroStepUsesUpTheBudget : Prop :=
  ∀ s : State, StateInv s → (s.dstate ≠ .idle ∨ s.oactive = true) → budget (microStep s) < budget s

/-- OBSERVE and READ end within their bound (R262): as long as no callback can come (the window is masked, or no request
line is enabled), Ticks alone bring the sequencer to Idle in at most the micro-steps it has left. -/
def Obligations.SequencerEndsWithinItsBudget : Prop :=
  ∀ (s : State) (ticks : List (List (Pin × Level))) (rest : List Input), StateInv s →
    (s.dstate ≠ .idle ∨ s.oactive = true) → s.insvc = false → (s.imask = true ∨ ∀ g : Fin 7, s.irqen[g] = false) →
    s.inputs = ticks.map .tick ++ rest → ticks.length = budget s →
    ∃ n t, 1 ≤ n ∧ n ≤ budget s ∧ core.run n s = .next t ∧ t.dstate = .idle ∧ t.oactive = false

/-- The clauses of R45, (a) to (h), each as the rule states it, in every state that a run from Reset reaches, whatever the
parameters are, whatever is presented, and however many steps have passed. That CNT stays within RESET_LOW_TICKS (R42 and
clause (h)) rests on the constraint START_HIGH_TICKS ≤ RESET_LOW_TICKS, which is the model's inference (log 11). -/
def Obligations.ReachableStatesMeetR45 : Prop :=
  ∀ (cfg : Config) (inputs : List Input) (n : Nat) (t : State),
    core.run n { State.reset with cfg := cfg, inputs := inputs } = .next t →
    t.cfg = cfg ∧
    (∀ p i : Nibble, (bankGet t.dir p).getLsbD i.toNat = true → bankGet t.clken p = true) ∧
    ((∀ p i : Nibble, pullCode (pinGet t.pull p i) ≠ 0b11) ∧ (∀ i, triggerCode (bankGet t.trig i) ≠ 3) ∧
      dstateCode t.dstate ≠ 7) ∧
    (∀ g : Fin 7, t.irqen[g] = true → t.bind.valid = true) ∧
    ((∀ i, (bankGet t.portsel i).toNat < cfg.nports) ∧ (t.bind.valid = true → t.bind.port.toNat < cfg.nports) ∧
      (t.dstate ≠ .idle ∨ t.oactive = true → t.dpin.port.toNat < cfg.nports ∧ t.opin.port.toNat < cfg.nports)) ∧
    ¬ (t.dstate ≠ .idle ∧ t.oactive = true) ∧
    (t.imask = true → ((t.dstate = .requestPulse ∧ (t.dphase = 1 ∨ t.dphase = 2)) ∨ t.dstate = .awaitAck1 ∨
      t.dstate = .awaitAck2 ∨ t.dstate = .bitCapture) ∧ t.insvc = false) ∧
    (t.fault.getLsbD 0 = false ∧ t.fault.getLsbD 7 = false) ∧
    (t.bitidx.toNat ≤ 39 ∧ t.ocnt.toNat ≤ t.omax.toNat ∧ t.cnt.toNat ≤ cfg.resetLow.toNat)
end

