-- ==== Sys2Proof/Laws/Bank.lean ====
section
/-! SUPPORT. Banks: reading after writing, and reading a bank that a rule fills place by place. -/

namespace Sys2Proof.Machine

/-- Every four-bit number is one of the sixteen. -/
theorem nibble_cases (k : Nibble) : k = 0 ∨ k = 1 ∨ k = 2 ∨ k = 3 ∨ k = 4 ∨ k = 5 ∨ k = 6 ∨ k = 7 ∨
    k = 8 ∨ k = 9 ∨ k = 10 ∨ k = 11 ∨ k = 12 ∨ k = 13 ∨ k = 14 ∨ k = 15 := by
  revert k; decide

@[simp] theorem bankGet_bankOf {α : Type} (f : Nibble → α) (k : Nibble) : bankGet (bankOf f) k = f k := by
  rcases nibble_cases k with
    rfl | rfl | rfl | rfl | rfl | rfl | rfl | rfl | rfl | rfl | rfl | rfl | rfl | rfl | rfl | rfl <;> rfl

@[simp] theorem bankGet_bankAll {α : Type} (a : α) (k : Nibble) : bankGet (bankAll a) k = a := by
  simp [bankAll]

theorem bankGet_bankSet {α : Type} (v : Bank α) (j k : Nibble) (a : α) :
    bankGet (bankSet v j a) k = if j = k then a else bankGet v k := by
  unfold bankGet bankSet
  rw [Vector.getElem_set]
  simp [BitVec.toNat_inj]

@[simp] theorem bankGet_bankSet_same {α : Type} (v : Bank α) (k : Nibble) (a : α) :
    bankGet (bankSet v k a) k = a := by
  simp [bankGet_bankSet]

theorem bankGet_bankSet_other {α : Type} (v : Bank α) {j k : Nibble} (a : α) (h : j ≠ k) :
    bankGet (bankSet v j a) k = bankGet v k := by
  simp [bankGet_bankSet, h]

theorem pinGet_pinSet {α : Type} (v : Bank (Bank α)) (p i q j : Nibble) (a : α) :
    pinGet (pinSet v p i a) q j = if p = q ∧ i = j then a else pinGet v q j := by
  unfold pinGet pinSet
  rw [bankGet_bankSet]
  by_cases hp : p = q
  · subst hp
    simp [bankGet_bankSet]
  · simp [hp]

/-- Two banks with the same values are the same bank. -/
theorem bank_ext {α : Type} {v w : Bank α} (h : ∀ k : Nibble, bankGet v k = bankGet w k) : v = w := by
  apply Vector.ext
  intro i hi
  have := h (BitVec.ofNat 4 i)
  simpa [bankGet, Nat.mod_eq_of_lt hi] using this

/-- Writing back what stands there changes nothing. -/
@[simp] theorem bankSet_bankGet {α : Type} (v : Bank α) (k : Nibble) : bankSet v k (bankGet v k) = v := by
  apply bank_ext
  intro j
  rw [bankGet_bankSet]
  split <;> simp_all

/-- The sixteen lines are all lines. -/
@[simp] theorem mem_allLines (i : Nibble) : i ∈ allLines := by
  revert i; decide

end Sys2Proof.Machine
end

