-- ==== Sys2Proof/Laws/Bits.lean ====
section
/-! SUPPORT. The bits of a port register after the read-modify-writes of 40_gpio.md, and of a range read. -/

namespace Sys2Proof.Machine

/-- Bit `j` of `b << i`. -/
theorem getLsbD_bit_shift (b : Bool) (i j : Nat) :
    ((if b then (1 : Half) else 0) <<< i).getLsbD j = (decide (j < 16) && decide (i = j) && b) := by
  by_cases hj : j < 16
  · cases b
    · simp
    · simp only [if_true, BitVec.getLsbD_shiftLeft, hj, decide_true, Bool.true_and, Bool.and_true]
      by_cases h : i = j
      · simp [h]
      · simp only [h, decide_false]
        by_cases h2 : j < i
        · simp [h2]
        · have : j - i ≠ 0 := by omega
          simp [this]
  · simp [hj]

theorem getLsbD_one_shift (i j : Nat) :
    ((1 : Half) <<< i).getLsbD j = (decide (j < 16) && decide (i = j)) := by
  have := getLsbD_bit_shift true i j
  simpa using this

/-- SET's read-modify-write writes the one bit and keeps every other (R112). -/
theorem getLsbD_putBit (w : Half) (i : Nibble) (b : Bool) (j : Nat) (hj : j < 16) :
    (putBit w i b).getLsbD j = if i.toNat = j then b else w.getLsbD j := by
  unfold putBit
  rw [BitVec.getLsbD_or, BitVec.getLsbD_and, BitVec.getLsbD_not, getLsbD_bit_shift, getLsbD_one_shift]
  by_cases h : i.toNat = j <;> simp [h, hj]

/-- TOGGLE's read-modify-write inverts the one bit and keeps every other (R116). -/
theorem getLsbD_flipBit (w : Half) (i : Nibble) (j : Nat) (hj : j < 16) :
    (flipBit w i).getLsbD j = if i.toNat = j then !w.getLsbD j else w.getLsbD j := by
  unfold flipBit
  rw [BitVec.getLsbD_xor, getLsbD_one_shift]
  by_cases h : i.toNat = j <;> simp [h, hj]

/-- The low `n` bits of mask(n) are ones (00_scope.md R9). -/
theorem getLsbD_maskOf (n j : Nat) : (maskOf n).getLsbD j = (decide (j < 16) && decide (j < n)) := by
  unfold maskOf
  rw [BitVec.getLsbD_ofNat, Nat.testBit_two_pow_sub_one]

/-- SET_RANGE's read-modify-write: bit k of the value goes to bit i + k, every bit outside the range is kept (R118). -/
theorem getLsbD_putRange (w : Half) (i : Nibble) (count : BitVec 5) (value : Half) (j : Nat) (hj : j < 16) :
    (putRange w i count value).getLsbD j =
      if i.toNat ≤ j ∧ j < i.toNat + count.toNat then value.getLsbD (j - i.toNat) else w.getLsbD j := by
  unfold putRange
  simp only [BitVec.getLsbD_or, BitVec.getLsbD_and, BitVec.getLsbD_not, BitVec.getLsbD_shiftLeft, getLsbD_maskOf, hj,
    decide_true, Bool.true_and]
  by_cases h : j < i.toNat
  · have : ¬ (i.toNat ≤ j) := by omega
    simp [h, this]
  · have hle : i.toNat ≤ j := by omega
    have h16 : j - i.toNat < 16 := by omega
    by_cases h2 : j < i.toNat + count.toNat
    · have : j - i.toNat < count.toNat := by omega
      simp [h, hle, h2, h16, this]
    · have : ¬ (j - i.toNat < count.toNat) := by omega
      simp [h, h2, h16, this]

/-- Bit k of a range read is bit i + k of the port word, for k < count (R120). -/
theorem getLsbD_takeRange (w : Half) (i : Nibble) (count : BitVec 5) (k : Nat) :
    (takeRange w i count).getLsbD k = (decide (k < count.toNat) && w.getLsbD (i.toNat + k)) := by
  unfold takeRange
  rw [BitVec.getLsbD_and, BitVec.getLsbD_ushiftRight, getLsbD_maskOf]
  by_cases hk : k < 16
  · simp [hk, Bool.and_comm]
  · have : w.getLsbD (i.toNat + k) = false := BitVec.getLsbD_of_ge w _ (by omega)
    simp [this]

theorem getLsbD_bitAt (b : Bool) (i j : Nat) :
    (bitAt b i).getLsbD j = (decide (j < 16) && decide (i = j) && b) :=
  getLsbD_bit_shift b i j

/-- Bit j of the port word that GET_RANGE reads is LEVEL(p, j) (R120). -/
theorem getLsbD_levelWord (s : State) (p j : Nibble) : (levelWord s p).getLsbD j.toNat = level s p j := by
  unfold levelWord allLines
  simp only [List.foldl_cons, List.foldl_nil, BitVec.getLsbD_or, getLsbD_bitAt]
  rcases nibble_cases j with
    rfl | rfl | rfl | rfl | rfl | rfl | rfl | rfl | rfl | rfl | rfl | rfl | rfl | rfl | rfl | rfl <;> simp

end Sys2Proof.Machine
end

