-- ==== Sys2Proof/Laws/Decode.lean ====
section
/-! SUPPORT. Fields and words: splitting a joined word gives the fields back, and joining split fields gives the word. -/

namespace Sys2Proof

/-- No field of a command word overlaps or is dropped (R85). -/
theorem split_join (f : Fields) : splitFields (joinFields f) = f := by
  obtain ⟨op, port, index, sub, count, rsv, imm⟩ := f
  simp only [splitFields, joinFields, Fields.mk.injEq]
  refine ⟨?_, ?_, ?_, ?_, ?_, ?_, ?_⟩ <;>
    (apply BitVec.eq_of_getLsbD_eq; intro i hi; simp only [BitVec.getLsbD_extractLsb', BitVec.getLsbD_append]
     interval_cases i <;> simp)

/-- The seven fields are the whole word (R85). -/
theorem join_split (w : CmdWord) : joinFields (splitFields w) = w := by
  simp only [splitFields, joinFields]
  apply BitVec.eq_of_getLsbD_eq
  intro i hi
  simp only [BitVec.getLsbD_extractLsb', BitVec.getLsbD_append]
  interval_cases i <;> simp

/-- The high half of an `imm` that carries sixteen bits is zero (R92). -/
@[simp] theorem immHigh_of_half (v : BitVec 16) : BitVec.extractLsb' 16 16 (0#16 ++ v) = 0#16 := by
  apply BitVec.eq_of_getLsbD_eq
  intro i hi
  rw [BitVec.getLsbD_extractLsb', BitVec.getLsbD_append]
  simp

/-- The low half of an `imm` that carries sixteen bits is what it carries (R92). -/
@[simp] theorem immLow_of_half (v : BitVec 16) : BitVec.extractLsb' 0 16 (0#16 ++ v) = v := by
  apply BitVec.eq_of_getLsbD_eq
  intro i hi
  rw [BitVec.getLsbD_extractLsb', BitVec.getLsbD_append]
  simp [hi]

/-- An `imm` whose high half is zero is its low half, extended (R92). -/
theorem imm_of_high_zero (w : BitVec 32) (h : BitVec.extractLsb' 16 16 w = 0#16) :
    0#16 ++ BitVec.extractLsb' 0 16 w = w := by
  apply BitVec.eq_of_getLsbD_eq
  intro i hi
  have hb := congrArg (fun x => BitVec.getLsbD x (i - 16)) h
  simp only [BitVec.getLsbD_extractLsb', BitVec.getLsbD_append, BitVec.getLsbD_zero] at hb ⊢
  by_cases hh : i < 16
  · simp [hh]
  · rw [show 16 + (i - 16) = i by omega] at hb
    have : i - 16 < 16 := by omega
    simp_all

@[simp] theorem pinModeOf_code (m : PinMode) : pinModeOf (pinModeCode m) = some m := by cases m <;> rfl

@[simp] theorem triggerOf_code (m : TriggerMode) : triggerOf (triggerCode m) = some m := by cases m <;> rfl

@[simp] theorem levelOf_code (b : Level) : levelOf (levelCode b) = some b := by cases b <;> rfl

end Sys2Proof
end

