-- ==== Sys2Proof/Laws/State.lean ====
section
/-! SUPPORT. What each shared update of the state leaves in each field: one lemma per field per update, true by unfolding
the update once, so that no later proof unfolds a record update. Where a field's new value is a whole bank (pad sampling,
the edge detector, the frame), Laws/Bank.lean and Laws/Ops.lean say what its entries are. -/

namespace Sys2Proof.Machine

variable (o : Output) (v m r : Half) (c : FaultCode) (pin : Pin) (md : PinMode) (b : Level) (k : BitVec 32) (st : Status)
  (e : Nibble → Nibble → Ext) (s : State)


@[simp] theorem emit_cfg : (emit o s).cfg = s.cfg := rfl
@[simp] theorem emit_inputs : (emit o s).inputs = s.inputs := rfl
@[simp] theorem emit_draws : (emit o s).draws = s.draws := rfl
@[simp] theorem emit_outputs : (emit o s).outputs = s.outputs ++ [o] := rfl
@[simp] theorem emit_dir : (emit o s).dir = s.dir := rfl
@[simp] theorem emit_pull : (emit o s).pull = s.pull := rfl
@[simp] theorem emit_odr : (emit o s).odr = s.odr := rfl
@[simp] theorem emit_padin : (emit o s).padin = s.padin := rfl
@[simp] theorem emit_clken : (emit o s).clken = s.clken := rfl
@[simp] theorem emit_trig : (emit o s).trig = s.trig := rfl
@[simp] theorem emit_pend : (emit o s).pend = s.pend := rfl
@[simp] theorem emit_portsel : (emit o s).portsel = s.portsel := rfl
@[simp] theorem emit_prev : (emit o s).prev = s.prev := rfl
@[simp] theorem emit_irqen : (emit o s).irqen = s.irqen := rfl
@[simp] theorem emit_irqprio : (emit o s).irqprio = s.irqprio := rfl
@[simp] theorem emit_bind : (emit o s).bind = s.bind := rfl
@[simp] theorem emit_imask : (emit o s).imask = s.imask := rfl
@[simp] theorem emit_insvc : (emit o s).insvc = s.insvc := rfl
@[simp] theorem emit_fault : (emit o s).fault = s.fault := rfl
@[simp] theorem emit_dpin : (emit o s).dpin = s.dpin := rfl
@[simp] theorem emit_dstate : (emit o s).dstate = s.dstate := rfl
@[simp] theorem emit_dphase : (emit o s).dphase = s.dphase := rfl
@[simp] theorem emit_bitidx : (emit o s).bitidx = s.bitidx := rfl
@[simp] theorem emit_oactive : (emit o s).oactive = s.oactive := rfl
@[simp] theorem emit_cnt : (emit o s).cnt = s.cnt := rfl
@[simp] theorem emit_opin : (emit o s).opin = s.opin := rfl
@[simp] theorem emit_otarget : (emit o s).otarget = s.otarget := rfl
@[simp] theorem emit_omax : (emit o s).omax = s.omax := rfl
@[simp] theorem emit_ocnt : (emit o s).ocnt = s.ocnt := rfl
@[simp] theorem emit_frame : (emit o s).frame = s.frame := rfl

@[simp] theorem respond_cfg : (respond v s).cfg = s.cfg := rfl
@[simp] theorem respond_inputs : (respond v s).inputs = s.inputs := rfl
@[simp] theorem respond_draws : (respond v s).draws = s.draws := rfl
@[simp] theorem respond_outputs : (respond v s).outputs = s.outputs ++ [.rsp (rspWord 0 v)] := rfl
@[simp] theorem respond_dir : (respond v s).dir = s.dir := rfl
@[simp] theorem respond_pull : (respond v s).pull = s.pull := rfl
@[simp] theorem respond_odr : (respond v s).odr = s.odr := rfl
@[simp] theorem respond_padin : (respond v s).padin = s.padin := rfl
@[simp] theorem respond_clken : (respond v s).clken = s.clken := rfl
@[simp] theorem respond_trig : (respond v s).trig = s.trig := rfl
@[simp] theorem respond_pend : (respond v s).pend = s.pend := rfl
@[simp] theorem respond_portsel : (respond v s).portsel = s.portsel := rfl
@[simp] theorem respond_prev : (respond v s).prev = s.prev := rfl
@[simp] theorem respond_irqen : (respond v s).irqen = s.irqen := rfl
@[simp] theorem respond_irqprio : (respond v s).irqprio = s.irqprio := rfl
@[simp] theorem respond_bind : (respond v s).bind = s.bind := rfl
@[simp] theorem respond_imask : (respond v s).imask = s.imask := rfl
@[simp] theorem respond_insvc : (respond v s).insvc = s.insvc := rfl
@[simp] theorem respond_fault : (respond v s).fault = s.fault := rfl
@[simp] theorem respond_dpin : (respond v s).dpin = s.dpin := rfl
@[simp] theorem respond_dstate : (respond v s).dstate = s.dstate := rfl
@[simp] theorem respond_dphase : (respond v s).dphase = s.dphase := rfl
@[simp] theorem respond_bitidx : (respond v s).bitidx = s.bitidx := rfl
@[simp] theorem respond_oactive : (respond v s).oactive = s.oactive := rfl
@[simp] theorem respond_cnt : (respond v s).cnt = s.cnt := rfl
@[simp] theorem respond_opin : (respond v s).opin = s.opin := rfl
@[simp] theorem respond_otarget : (respond v s).otarget = s.otarget := rfl
@[simp] theorem respond_omax : (respond v s).omax = s.omax := rfl
@[simp] theorem respond_ocnt : (respond v s).ocnt = s.ocnt := rfl
@[simp] theorem respond_frame : (respond v s).frame = s.frame := rfl

@[simp] theorem takeFault_cfg : (takeFault c s).cfg = s.cfg := rfl
@[simp] theorem takeFault_inputs : (takeFault c s).inputs = s.inputs := rfl
@[simp] theorem takeFault_draws : (takeFault c s).draws = s.draws := rfl
@[simp] theorem takeFault_outputs : (takeFault c s).outputs = s.outputs ++ [.rsp (rspWord (faultNumber c) 0)] := rfl
@[simp] theorem takeFault_dir : (takeFault c s).dir = s.dir := rfl
@[simp] theorem takeFault_pull : (takeFault c s).pull = s.pull := rfl
@[simp] theorem takeFault_odr : (takeFault c s).odr = s.odr := rfl
@[simp] theorem takeFault_padin : (takeFault c s).padin = s.padin := rfl
@[simp] theorem takeFault_clken : (takeFault c s).clken = s.clken := rfl
@[simp] theorem takeFault_trig : (takeFault c s).trig = s.trig := rfl
@[simp] theorem takeFault_pend : (takeFault c s).pend = s.pend := rfl
@[simp] theorem takeFault_portsel : (takeFault c s).portsel = s.portsel := rfl
@[simp] theorem takeFault_prev : (takeFault c s).prev = s.prev := rfl
@[simp] theorem takeFault_irqen : (takeFault c s).irqen = s.irqen := rfl
@[simp] theorem takeFault_irqprio : (takeFault c s).irqprio = s.irqprio := rfl
@[simp] theorem takeFault_bind : (takeFault c s).bind = s.bind := rfl
@[simp] theorem takeFault_imask : (takeFault c s).imask = s.imask := rfl
@[simp] theorem takeFault_insvc : (takeFault c s).insvc = s.insvc := rfl
@[simp] theorem takeFault_fault : (takeFault c s).fault = raiseFlag c s.fault := rfl
@[simp] theorem takeFault_dpin : (takeFault c s).dpin = s.dpin := rfl
@[simp] theorem takeFault_dstate : (takeFault c s).dstate = s.dstate := rfl
@[simp] theorem takeFault_dphase : (takeFault c s).dphase = s.dphase := rfl
@[simp] theorem takeFault_bitidx : (takeFault c s).bitidx = s.bitidx := rfl
@[simp] theorem takeFault_oactive : (takeFault c s).oactive = s.oactive := rfl
@[simp] theorem takeFault_cnt : (takeFault c s).cnt = s.cnt := rfl
@[simp] theorem takeFault_opin : (takeFault c s).opin = s.opin := rfl
@[simp] theorem takeFault_otarget : (takeFault c s).otarget = s.otarget := rfl
@[simp] theorem takeFault_omax : (takeFault c s).omax = s.omax := rfl
@[simp] theorem takeFault_ocnt : (takeFault c s).ocnt = s.ocnt := rfl
@[simp] theorem takeFault_frame : (takeFault c s).frame = s.frame := rfl

@[simp] theorem doSetMode_cfg : (doSetMode pin md s).cfg = s.cfg := rfl
@[simp] theorem doSetMode_inputs : (doSetMode pin md s).inputs = s.inputs := rfl
@[simp] theorem doSetMode_draws : (doSetMode pin md s).draws = s.draws := rfl
@[simp] theorem doSetMode_outputs : (doSetMode pin md s).outputs = s.outputs := rfl
@[simp] theorem doSetMode_dir : (doSetMode pin md s).dir =
    bankSet s.dir pin.port (putBit (bankGet s.dir pin.port) pin.index (modeDir md)) := rfl
@[simp] theorem doSetMode_pull : (doSetMode pin md s).pull = pinSet s.pull pin.port pin.index (modePull md) := rfl
@[simp] theorem doSetMode_odr : (doSetMode pin md s).odr = s.odr := rfl
@[simp] theorem doSetMode_padin : (doSetMode pin md s).padin = s.padin := rfl
@[simp] theorem doSetMode_clken : (doSetMode pin md s).clken = bankSet s.clken pin.port true := rfl
@[simp] theorem doSetMode_trig : (doSetMode pin md s).trig = s.trig := rfl
@[simp] theorem doSetMode_pend : (doSetMode pin md s).pend = s.pend := rfl
@[simp] theorem doSetMode_portsel : (doSetMode pin md s).portsel = s.portsel := rfl
@[simp] theorem doSetMode_prev : (doSetMode pin md s).prev = s.prev := rfl
@[simp] theorem doSetMode_irqen : (doSetMode pin md s).irqen = s.irqen := rfl
@[simp] theorem doSetMode_irqprio : (doSetMode pin md s).irqprio = s.irqprio := rfl
@[simp] theorem doSetMode_bind : (doSetMode pin md s).bind = s.bind := rfl
@[simp] theorem doSetMode_imask : (doSetMode pin md s).imask = s.imask := rfl
@[simp] theorem doSetMode_insvc : (doSetMode pin md s).insvc = s.insvc := rfl
@[simp] theorem doSetMode_fault : (doSetMode pin md s).fault = s.fault := rfl
@[simp] theorem doSetMode_dpin : (doSetMode pin md s).dpin = s.dpin := rfl
@[simp] theorem doSetMode_dstate : (doSetMode pin md s).dstate = s.dstate := rfl
@[simp] theorem doSetMode_dphase : (doSetMode pin md s).dphase = s.dphase := rfl
@[simp] theorem doSetMode_bitidx : (doSetMode pin md s).bitidx = s.bitidx := rfl
@[simp] theorem doSetMode_oactive : (doSetMode pin md s).oactive = s.oactive := rfl
@[simp] theorem doSetMode_cnt : (doSetMode pin md s).cnt = s.cnt := rfl
@[simp] theorem doSetMode_opin : (doSetMode pin md s).opin = s.opin := rfl
@[simp] theorem doSetMode_otarget : (doSetMode pin md s).otarget = s.otarget := rfl
@[simp] theorem doSetMode_omax : (doSetMode pin md s).omax = s.omax := rfl
@[simp] theorem doSetMode_ocnt : (doSetMode pin md s).ocnt = s.ocnt := rfl
@[simp] theorem doSetMode_frame : (doSetMode pin md s).frame = s.frame := rfl

@[simp] theorem doSet_cfg : (doSet pin b s).cfg = s.cfg := rfl
@[simp] theorem doSet_inputs : (doSet pin b s).inputs = s.inputs := rfl
@[simp] theorem doSet_draws : (doSet pin b s).draws = s.draws := rfl
@[simp] theorem doSet_outputs : (doSet pin b s).outputs = s.outputs := rfl
@[simp] theorem doSet_dir : (doSet pin b s).dir = s.dir := rfl
@[simp] theorem doSet_pull : (doSet pin b s).pull = s.pull := rfl
@[simp] theorem doSet_odr : (doSet pin b s).odr =
    bankSet s.odr pin.port (putBit (bankGet s.odr pin.port) pin.index b) := rfl
@[simp] theorem doSet_padin : (doSet pin b s).padin = s.padin := rfl
@[simp] theorem doSet_clken : (doSet pin b s).clken = s.clken := rfl
@[simp] theorem doSet_trig : (doSet pin b s).trig = s.trig := rfl
@[simp] theorem doSet_pend : (doSet pin b s).pend = s.pend := rfl
@[simp] theorem doSet_portsel : (doSet pin b s).portsel = s.portsel := rfl
@[simp] theorem doSet_prev : (doSet pin b s).prev = s.prev := rfl
@[simp] theorem doSet_irqen : (doSet pin b s).irqen = s.irqen := rfl
@[simp] theorem doSet_irqprio : (doSet pin b s).irqprio = s.irqprio := rfl
@[simp] theorem doSet_bind : (doSet pin b s).bind = s.bind := rfl
@[simp] theorem doSet_imask : (doSet pin b s).imask = s.imask := rfl
@[simp] theorem doSet_insvc : (doSet pin b s).insvc = s.insvc := rfl
@[simp] theorem doSet_fault : (doSet pin b s).fault = s.fault := rfl
@[simp] theorem doSet_dpin : (doSet pin b s).dpin = s.dpin := rfl
@[simp] theorem doSet_dstate : (doSet pin b s).dstate = s.dstate := rfl
@[simp] theorem doSet_dphase : (doSet pin b s).dphase = s.dphase := rfl
@[simp] theorem doSet_bitidx : (doSet pin b s).bitidx = s.bitidx := rfl
@[simp] theorem doSet_oactive : (doSet pin b s).oactive = s.oactive := rfl
@[simp] theorem doSet_cnt : (doSet pin b s).cnt = s.cnt := rfl
@[simp] theorem doSet_opin : (doSet pin b s).opin = s.opin := rfl
@[simp] theorem doSet_otarget : (doSet pin b s).otarget = s.otarget := rfl
@[simp] theorem doSet_omax : (doSet pin b s).omax = s.omax := rfl
@[simp] theorem doSet_ocnt : (doSet pin b s).ocnt = s.ocnt := rfl
@[simp] theorem doSet_frame : (doSet pin b s).frame = s.frame := rfl

@[simp] theorem bindCallback_cfg : (bindCallback pin k s).cfg = s.cfg := rfl
@[simp] theorem bindCallback_inputs : (bindCallback pin k s).inputs = s.inputs := rfl
@[simp] theorem bindCallback_draws : (bindCallback pin k s).draws = s.draws := rfl
@[simp] theorem bindCallback_outputs : (bindCallback pin k s).outputs = s.outputs := rfl
@[simp] theorem bindCallback_dir : (bindCallback pin k s).dir = s.dir := rfl
@[simp] theorem bindCallback_pull : (bindCallback pin k s).pull = s.pull := rfl
@[simp] theorem bindCallback_odr : (bindCallback pin k s).odr = s.odr := rfl
@[simp] theorem bindCallback_padin : (bindCallback pin k s).padin = s.padin := rfl
@[simp] theorem bindCallback_clken : (bindCallback pin k s).clken = s.clken := rfl
@[simp] theorem bindCallback_trig : (bindCallback pin k s).trig = s.trig := rfl
@[simp] theorem bindCallback_pend : (bindCallback pin k s).pend = s.pend := rfl
@[simp] theorem bindCallback_portsel : (bindCallback pin k s).portsel = bankSet s.portsel pin.index pin.port := rfl
@[simp] theorem bindCallback_prev : (bindCallback pin k s).prev = s.prev := rfl
@[simp] theorem bindCallback_irqen : (bindCallback pin k s).irqen = s.irqen.set (grp pin.index) true := rfl
@[simp] theorem bindCallback_irqprio : (bindCallback pin k s).irqprio =
    s.irqprio.set (grp pin.index) s.cfg.irqPrio := rfl
@[simp] theorem bindCallback_bind : (bindCallback pin k s).bind = ⟨true, pin.port, pin.index, k⟩ := rfl
@[simp] theorem bindCallback_imask : (bindCallback pin k s).imask = s.imask := rfl
@[simp] theorem bindCallback_insvc : (bindCallback pin k s).insvc = s.insvc := rfl
@[simp] theorem bindCallback_fault : (bindCallback pin k s).fault = s.fault := rfl
@[simp] theorem bindCallback_dpin : (bindCallback pin k s).dpin = s.dpin := rfl
@[simp] theorem bindCallback_dstate : (bindCallback pin k s).dstate = s.dstate := rfl
@[simp] theorem bindCallback_dphase : (bindCallback pin k s).dphase = s.dphase := rfl
@[simp] theorem bindCallback_bitidx : (bindCallback pin k s).bitidx = s.bitidx := rfl
@[simp] theorem bindCallback_oactive : (bindCallback pin k s).oactive = s.oactive := rfl
@[simp] theorem bindCallback_cnt : (bindCallback pin k s).cnt = s.cnt := rfl
@[simp] theorem bindCallback_opin : (bindCallback pin k s).opin = s.opin := rfl
@[simp] theorem bindCallback_otarget : (bindCallback pin k s).otarget = s.otarget := rfl
@[simp] theorem bindCallback_omax : (bindCallback pin k s).omax = s.omax := rfl
@[simp] theorem bindCallback_ocnt : (bindCallback pin k s).ocnt = s.ocnt := rfl
@[simp] theorem bindCallback_frame : (bindCallback pin k s).frame = s.frame := rfl

@[simp] theorem returnFromCallback_cfg : (returnFromCallback s).cfg = s.cfg := rfl
@[simp] theorem returnFromCallback_inputs : (returnFromCallback s).inputs = s.inputs := rfl
@[simp] theorem returnFromCallback_draws : (returnFromCallback s).draws = s.draws := rfl
@[simp] theorem returnFromCallback_outputs : (returnFromCallback s).outputs = s.outputs := rfl
@[simp] theorem returnFromCallback_dir : (returnFromCallback s).dir = s.dir := rfl
@[simp] theorem returnFromCallback_pull : (returnFromCallback s).pull = s.pull := rfl
@[simp] theorem returnFromCallback_odr : (returnFromCallback s).odr = s.odr := rfl
@[simp] theorem returnFromCallback_padin : (returnFromCallback s).padin = s.padin := rfl
@[simp] theorem returnFromCallback_clken : (returnFromCallback s).clken = s.clken := rfl
@[simp] theorem returnFromCallback_trig : (returnFromCallback s).trig = s.trig := rfl
@[simp] theorem returnFromCallback_pend : (returnFromCallback s).pend = s.pend := rfl
@[simp] theorem returnFromCallback_portsel : (returnFromCallback s).portsel = s.portsel := rfl
@[simp] theorem returnFromCallback_prev : (returnFromCallback s).prev = s.prev := rfl
@[simp] theorem returnFromCallback_irqen : (returnFromCallback s).irqen = s.irqen := rfl
@[simp] theorem returnFromCallback_irqprio : (returnFromCallback s).irqprio = s.irqprio := rfl
@[simp] theorem returnFromCallback_bind : (returnFromCallback s).bind = s.bind := rfl
@[simp] theorem returnFromCallback_imask : (returnFromCallback s).imask = s.imask := rfl
@[simp] theorem returnFromCallback_insvc : (returnFromCallback s).insvc = false := rfl
@[simp] theorem returnFromCallback_fault : (returnFromCallback s).fault = s.fault := rfl
@[simp] theorem returnFromCallback_dpin : (returnFromCallback s).dpin = s.dpin := rfl
@[simp] theorem returnFromCallback_dstate : (returnFromCallback s).dstate = s.dstate := rfl
@[simp] theorem returnFromCallback_dphase : (returnFromCallback s).dphase = s.dphase := rfl
@[simp] theorem returnFromCallback_bitidx : (returnFromCallback s).bitidx = s.bitidx := rfl
@[simp] theorem returnFromCallback_oactive : (returnFromCallback s).oactive = s.oactive := rfl
@[simp] theorem returnFromCallback_cnt : (returnFromCallback s).cnt = s.cnt := rfl
@[simp] theorem returnFromCallback_opin : (returnFromCallback s).opin = s.opin := rfl
@[simp] theorem returnFromCallback_otarget : (returnFromCallback s).otarget = s.otarget := rfl
@[simp] theorem returnFromCallback_omax : (returnFromCallback s).omax = s.omax := rfl
@[simp] theorem returnFromCallback_ocnt : (returnFromCallback s).ocnt = s.ocnt := rfl
@[simp] theorem returnFromCallback_frame : (returnFromCallback s).frame = s.frame := rfl

@[simp] theorem startObserve_cfg : (startObserve pin b m s).cfg = s.cfg := rfl
@[simp] theorem startObserve_inputs : (startObserve pin b m s).inputs = s.inputs := rfl
@[simp] theorem startObserve_draws : (startObserve pin b m s).draws = s.draws := rfl
@[simp] theorem startObserve_outputs : (startObserve pin b m s).outputs = s.outputs := rfl
@[simp] theorem startObserve_dir : (startObserve pin b m s).dir = s.dir := rfl
@[simp] theorem startObserve_pull : (startObserve pin b m s).pull = s.pull := rfl
@[simp] theorem startObserve_odr : (startObserve pin b m s).odr = s.odr := rfl
@[simp] theorem startObserve_padin : (startObserve pin b m s).padin = s.padin := rfl
@[simp] theorem startObserve_clken : (startObserve pin b m s).clken = s.clken := rfl
@[simp] theorem startObserve_trig : (startObserve pin b m s).trig = s.trig := rfl
@[simp] theorem startObserve_pend : (startObserve pin b m s).pend = s.pend := rfl
@[simp] theorem startObserve_portsel : (startObserve pin b m s).portsel = s.portsel := rfl
@[simp] theorem startObserve_prev : (startObserve pin b m s).prev = s.prev := rfl
@[simp] theorem startObserve_irqen : (startObserve pin b m s).irqen = s.irqen := rfl
@[simp] theorem startObserve_irqprio : (startObserve pin b m s).irqprio = s.irqprio := rfl
@[simp] theorem startObserve_bind : (startObserve pin b m s).bind = s.bind := rfl
@[simp] theorem startObserve_imask : (startObserve pin b m s).imask = s.imask := rfl
@[simp] theorem startObserve_insvc : (startObserve pin b m s).insvc = s.insvc := rfl
@[simp] theorem startObserve_fault : (startObserve pin b m s).fault = s.fault := rfl
@[simp] theorem startObserve_dpin : (startObserve pin b m s).dpin = s.dpin := rfl
@[simp] theorem startObserve_dstate : (startObserve pin b m s).dstate = s.dstate := rfl
@[simp] theorem startObserve_dphase : (startObserve pin b m s).dphase = s.dphase := rfl
@[simp] theorem startObserve_bitidx : (startObserve pin b m s).bitidx = s.bitidx := rfl
@[simp] theorem startObserve_oactive : (startObserve pin b m s).oactive = true := rfl
@[simp] theorem startObserve_cnt : (startObserve pin b m s).cnt = s.cnt := rfl
@[simp] theorem startObserve_opin : (startObserve pin b m s).opin = pin := rfl
@[simp] theorem startObserve_otarget : (startObserve pin b m s).otarget = b := rfl
@[simp] theorem startObserve_omax : (startObserve pin b m s).omax = m := rfl
@[simp] theorem startObserve_ocnt : (startObserve pin b m s).ocnt = 0 := rfl
@[simp] theorem startObserve_frame : (startObserve pin b m s).frame = s.frame := rfl

@[simp] theorem polled_cfg : (polled s).cfg = s.cfg := rfl
@[simp] theorem polled_inputs : (polled s).inputs = s.inputs := rfl
@[simp] theorem polled_draws : (polled s).draws = s.draws := rfl
@[simp] theorem polled_outputs : (polled s).outputs = s.outputs := rfl
@[simp] theorem polled_dir : (polled s).dir = s.dir := rfl
@[simp] theorem polled_pull : (polled s).pull = s.pull := rfl
@[simp] theorem polled_odr : (polled s).odr = s.odr := rfl
@[simp] theorem polled_padin : (polled s).padin = s.padin := rfl
@[simp] theorem polled_clken : (polled s).clken = s.clken := rfl
@[simp] theorem polled_trig : (polled s).trig = s.trig := rfl
@[simp] theorem polled_pend : (polled s).pend = s.pend := rfl
@[simp] theorem polled_portsel : (polled s).portsel = s.portsel := rfl
@[simp] theorem polled_prev : (polled s).prev = s.prev := rfl
@[simp] theorem polled_irqen : (polled s).irqen = s.irqen := rfl
@[simp] theorem polled_irqprio : (polled s).irqprio = s.irqprio := rfl
@[simp] theorem polled_bind : (polled s).bind = s.bind := rfl
@[simp] theorem polled_imask : (polled s).imask = s.imask := rfl
@[simp] theorem polled_insvc : (polled s).insvc = s.insvc := rfl
@[simp] theorem polled_fault : (polled s).fault = s.fault := rfl
@[simp] theorem polled_dpin : (polled s).dpin = s.dpin := rfl
@[simp] theorem polled_dstate : (polled s).dstate = s.dstate := rfl
@[simp] theorem polled_dphase : (polled s).dphase = s.dphase := rfl
@[simp] theorem polled_bitidx : (polled s).bitidx = s.bitidx := rfl
@[simp] theorem polled_oactive : (polled s).oactive = s.oactive := rfl
@[simp] theorem polled_cnt : (polled s).cnt = s.cnt := rfl
@[simp] theorem polled_opin : (polled s).opin = s.opin := rfl
@[simp] theorem polled_otarget : (polled s).otarget = s.otarget := rfl
@[simp] theorem polled_omax : (polled s).omax = s.omax := rfl
@[simp] theorem polled_ocnt : (polled s).ocnt = s.ocnt + 1 := rfl
@[simp] theorem polled_frame : (polled s).frame = s.frame := rfl

@[simp] theorem endObserve_cfg : (endObserve r s).cfg = s.cfg := rfl
@[simp] theorem endObserve_inputs : (endObserve r s).inputs = s.inputs := rfl
@[simp] theorem endObserve_draws : (endObserve r s).draws = s.draws := rfl
@[simp] theorem endObserve_outputs : (endObserve r s).outputs = s.outputs ++ [.obsDone r] := rfl
@[simp] theorem endObserve_dir : (endObserve r s).dir = s.dir := rfl
@[simp] theorem endObserve_pull : (endObserve r s).pull = s.pull := rfl
@[simp] theorem endObserve_odr : (endObserve r s).odr = s.odr := rfl
@[simp] theorem endObserve_padin : (endObserve r s).padin = s.padin := rfl
@[simp] theorem endObserve_clken : (endObserve r s).clken = s.clken := rfl
@[simp] theorem endObserve_trig : (endObserve r s).trig = s.trig := rfl
@[simp] theorem endObserve_pend : (endObserve r s).pend = s.pend := rfl
@[simp] theorem endObserve_portsel : (endObserve r s).portsel = s.portsel := rfl
@[simp] theorem endObserve_prev : (endObserve r s).prev = s.prev := rfl
@[simp] theorem endObserve_irqen : (endObserve r s).irqen = s.irqen := rfl
@[simp] theorem endObserve_irqprio : (endObserve r s).irqprio = s.irqprio := rfl
@[simp] theorem endObserve_bind : (endObserve r s).bind = s.bind := rfl
@[simp] theorem endObserve_imask : (endObserve r s).imask = s.imask := rfl
@[simp] theorem endObserve_insvc : (endObserve r s).insvc = s.insvc := rfl
@[simp] theorem endObserve_fault : (endObserve r s).fault = s.fault := rfl
@[simp] theorem endObserve_dpin : (endObserve r s).dpin = s.dpin := rfl
@[simp] theorem endObserve_dstate : (endObserve r s).dstate = s.dstate := rfl
@[simp] theorem endObserve_dphase : (endObserve r s).dphase = s.dphase := rfl
@[simp] theorem endObserve_bitidx : (endObserve r s).bitidx = s.bitidx := rfl
@[simp] theorem endObserve_oactive : (endObserve r s).oactive = false := rfl
@[simp] theorem endObserve_cnt : (endObserve r s).cnt = s.cnt := rfl
@[simp] theorem endObserve_opin : (endObserve r s).opin = s.opin := rfl
@[simp] theorem endObserve_otarget : (endObserve r s).otarget = s.otarget := rfl
@[simp] theorem endObserve_omax : (endObserve r s).omax = s.omax := rfl
@[simp] theorem endObserve_ocnt : (endObserve r s).ocnt = s.ocnt := rfl
@[simp] theorem endObserve_frame : (endObserve r s).frame = s.frame := rfl

@[simp] theorem arm_cfg : (arm b m s).cfg = s.cfg := rfl
@[simp] theorem arm_inputs : (arm b m s).inputs = s.inputs := rfl
@[simp] theorem arm_draws : (arm b m s).draws = s.draws := rfl
@[simp] theorem arm_outputs : (arm b m s).outputs = s.outputs := rfl
@[simp] theorem arm_dir : (arm b m s).dir = s.dir := rfl
@[simp] theorem arm_pull : (arm b m s).pull = s.pull := rfl
@[simp] theorem arm_odr : (arm b m s).odr = s.odr := rfl
@[simp] theorem arm_padin : (arm b m s).padin = s.padin := rfl
@[simp] theorem arm_clken : (arm b m s).clken = s.clken := rfl
@[simp] theorem arm_trig : (arm b m s).trig = s.trig := rfl
@[simp] theorem arm_pend : (arm b m s).pend = s.pend := rfl
@[simp] theorem arm_portsel : (arm b m s).portsel = s.portsel := rfl
@[simp] theorem arm_prev : (arm b m s).prev = s.prev := rfl
@[simp] theorem arm_irqen : (arm b m s).irqen = s.irqen := rfl
@[simp] theorem arm_irqprio : (arm b m s).irqprio = s.irqprio := rfl
@[simp] theorem arm_bind : (arm b m s).bind = s.bind := rfl
@[simp] theorem arm_imask : (arm b m s).imask = s.imask := rfl
@[simp] theorem arm_insvc : (arm b m s).insvc = s.insvc := rfl
@[simp] theorem arm_fault : (arm b m s).fault = s.fault := rfl
@[simp] theorem arm_dpin : (arm b m s).dpin = s.dpin := rfl
@[simp] theorem arm_dstate : (arm b m s).dstate = s.dstate := rfl
@[simp] theorem arm_dphase : (arm b m s).dphase = s.dphase := rfl
@[simp] theorem arm_bitidx : (arm b m s).bitidx = s.bitidx := rfl
@[simp] theorem arm_oactive : (arm b m s).oactive = s.oactive := rfl
@[simp] theorem arm_cnt : (arm b m s).cnt = s.cnt := rfl
@[simp] theorem arm_opin : (arm b m s).opin = s.dpin := rfl
@[simp] theorem arm_otarget : (arm b m s).otarget = b := rfl
@[simp] theorem arm_omax : (arm b m s).omax = m := rfl
@[simp] theorem arm_ocnt : (arm b m s).ocnt = 0 := rfl
@[simp] theorem arm_frame : (arm b m s).frame = s.frame := rfl

@[simp] theorem startRead_cfg : (startRead pin s).cfg = s.cfg := rfl
@[simp] theorem startRead_inputs : (startRead pin s).inputs = s.inputs := rfl
@[simp] theorem startRead_draws : (startRead pin s).draws = s.draws := rfl
@[simp] theorem startRead_outputs : (startRead pin s).outputs = s.outputs := rfl
@[simp] theorem startRead_dir : (startRead pin s).dir =
    bankSet s.dir pin.port (putBit (bankGet s.dir pin.port) pin.index true) := rfl
@[simp] theorem startRead_pull : (startRead pin s).pull = pinSet s.pull pin.port pin.index .none := rfl
@[simp] theorem startRead_odr : (startRead pin s).odr =
    bankSet s.odr pin.port (putBit (bankGet s.odr pin.port) pin.index false) := rfl
@[simp] theorem startRead_padin : (startRead pin s).padin = s.padin := rfl
@[simp] theorem startRead_clken : (startRead pin s).clken = bankSet s.clken pin.port true := rfl
@[simp] theorem startRead_trig : (startRead pin s).trig = s.trig := rfl
@[simp] theorem startRead_pend : (startRead pin s).pend = s.pend := rfl
@[simp] theorem startRead_portsel : (startRead pin s).portsel = s.portsel := rfl
@[simp] theorem startRead_prev : (startRead pin s).prev = s.prev := rfl
@[simp] theorem startRead_irqen : (startRead pin s).irqen = s.irqen := rfl
@[simp] theorem startRead_irqprio : (startRead pin s).irqprio = s.irqprio := rfl
@[simp] theorem startRead_bind : (startRead pin s).bind = s.bind := rfl
@[simp] theorem startRead_imask : (startRead pin s).imask = s.imask := rfl
@[simp] theorem startRead_insvc : (startRead pin s).insvc = s.insvc := rfl
@[simp] theorem startRead_fault : (startRead pin s).fault = s.fault := rfl
@[simp] theorem startRead_dpin : (startRead pin s).dpin = pin := rfl
@[simp] theorem startRead_dstate : (startRead pin s).dstate = .requestPulse := rfl
@[simp] theorem startRead_dphase : (startRead pin s).dphase = phaseLow := rfl
@[simp] theorem startRead_bitidx : (startRead pin s).bitidx = 0 := rfl
@[simp] theorem startRead_oactive : (startRead pin s).oactive = s.oactive := rfl
@[simp] theorem startRead_cnt : (startRead pin s).cnt = 0 := rfl
@[simp] theorem startRead_opin : (startRead pin s).opin = s.opin := rfl
@[simp] theorem startRead_otarget : (startRead pin s).otarget = s.otarget := rfl
@[simp] theorem startRead_omax : (startRead pin s).omax = s.omax := rfl
@[simp] theorem startRead_ocnt : (startRead pin s).ocnt = s.ocnt := rfl
@[simp] theorem startRead_frame : (startRead pin s).frame = #v[0, 0, 0, 0, 0] := rfl

@[simp] theorem toIdle_cfg : (toIdle s).cfg = s.cfg := rfl
@[simp] theorem toIdle_inputs : (toIdle s).inputs = s.inputs := rfl
@[simp] theorem toIdle_draws : (toIdle s).draws = s.draws := rfl
@[simp] theorem toIdle_outputs : (toIdle s).outputs = s.outputs := rfl
@[simp] theorem toIdle_dir : (toIdle s).dir = s.dir := rfl
@[simp] theorem toIdle_pull : (toIdle s).pull = s.pull := rfl
@[simp] theorem toIdle_odr : (toIdle s).odr = s.odr := rfl
@[simp] theorem toIdle_padin : (toIdle s).padin = s.padin := rfl
@[simp] theorem toIdle_clken : (toIdle s).clken = s.clken := rfl
@[simp] theorem toIdle_trig : (toIdle s).trig = s.trig := rfl
@[simp] theorem toIdle_pend : (toIdle s).pend = s.pend := rfl
@[simp] theorem toIdle_portsel : (toIdle s).portsel = s.portsel := rfl
@[simp] theorem toIdle_prev : (toIdle s).prev = s.prev := rfl
@[simp] theorem toIdle_irqen : (toIdle s).irqen = s.irqen := rfl
@[simp] theorem toIdle_irqprio : (toIdle s).irqprio = s.irqprio := rfl
@[simp] theorem toIdle_bind : (toIdle s).bind = s.bind := rfl
@[simp] theorem toIdle_imask : (toIdle s).imask = s.imask := rfl
@[simp] theorem toIdle_insvc : (toIdle s).insvc = s.insvc := rfl
@[simp] theorem toIdle_fault : (toIdle s).fault = s.fault := rfl
@[simp] theorem toIdle_dpin : (toIdle s).dpin = s.dpin := rfl
@[simp] theorem toIdle_dstate : (toIdle s).dstate = .idle := rfl
@[simp] theorem toIdle_dphase : (toIdle s).dphase = 0 := rfl
@[simp] theorem toIdle_bitidx : (toIdle s).bitidx = s.bitidx := rfl
@[simp] theorem toIdle_oactive : (toIdle s).oactive = s.oactive := rfl
@[simp] theorem toIdle_cnt : (toIdle s).cnt = s.cnt := rfl
@[simp] theorem toIdle_opin : (toIdle s).opin = s.opin := rfl
@[simp] theorem toIdle_otarget : (toIdle s).otarget = s.otarget := rfl
@[simp] theorem toIdle_omax : (toIdle s).omax = s.omax := rfl
@[simp] theorem toIdle_ocnt : (toIdle s).ocnt = s.ocnt := rfl
@[simp] theorem toIdle_frame : (toIdle s).frame = s.frame := rfl

@[simp] theorem finish_cfg : (finish st s).cfg = s.cfg := rfl
@[simp] theorem finish_inputs : (finish st s).inputs = s.inputs := rfl
@[simp] theorem finish_draws : (finish st s).draws = s.draws := rfl
@[simp] theorem finish_outputs : (finish st s).outputs = s.outputs ++ [.readDone (failureWord st)] := rfl
@[simp] theorem finish_dir : (finish st s).dir = s.dir := rfl
@[simp] theorem finish_pull : (finish st s).pull = s.pull := rfl
@[simp] theorem finish_odr : (finish st s).odr = s.odr := rfl
@[simp] theorem finish_padin : (finish st s).padin = s.padin := rfl
@[simp] theorem finish_clken : (finish st s).clken = s.clken := rfl
@[simp] theorem finish_trig : (finish st s).trig = s.trig := rfl
@[simp] theorem finish_pend : (finish st s).pend = s.pend := rfl
@[simp] theorem finish_portsel : (finish st s).portsel = s.portsel := rfl
@[simp] theorem finish_prev : (finish st s).prev = s.prev := rfl
@[simp] theorem finish_irqen : (finish st s).irqen = s.irqen := rfl
@[simp] theorem finish_irqprio : (finish st s).irqprio = s.irqprio := rfl
@[simp] theorem finish_bind : (finish st s).bind = s.bind := rfl
@[simp] theorem finish_imask : (finish st s).imask = false := rfl
@[simp] theorem finish_insvc : (finish st s).insvc = s.insvc := rfl
@[simp] theorem finish_fault : (finish st s).fault = s.fault := rfl
@[simp] theorem finish_dpin : (finish st s).dpin = s.dpin := rfl
@[simp] theorem finish_dstate : (finish st s).dstate = .idle := rfl
@[simp] theorem finish_dphase : (finish st s).dphase = 0 := rfl
@[simp] theorem finish_bitidx : (finish st s).bitidx = s.bitidx := rfl
@[simp] theorem finish_oactive : (finish st s).oactive = s.oactive := rfl
@[simp] theorem finish_cnt : (finish st s).cnt = s.cnt := rfl
@[simp] theorem finish_opin : (finish st s).opin = s.opin := rfl
@[simp] theorem finish_otarget : (finish st s).otarget = s.otarget := rfl
@[simp] theorem finish_omax : (finish st s).omax = s.omax := rfl
@[simp] theorem finish_ocnt : (finish st s).ocnt = s.ocnt := rfl
@[simp] theorem finish_frame : (finish st s).frame = s.frame := rfl

@[simp] theorem deliver_cfg : (deliver s).cfg = s.cfg := rfl
@[simp] theorem deliver_inputs : (deliver s).inputs = s.inputs := rfl
@[simp] theorem deliver_draws : (deliver s).draws = s.draws := rfl
@[simp] theorem deliver_outputs : (deliver s).outputs = s.outputs ++ [.readDone (frameWord s.frame)] := rfl
@[simp] theorem deliver_dir : (deliver s).dir = s.dir := rfl
@[simp] theorem deliver_pull : (deliver s).pull = s.pull := rfl
@[simp] theorem deliver_odr : (deliver s).odr = s.odr := rfl
@[simp] theorem deliver_padin : (deliver s).padin = s.padin := rfl
@[simp] theorem deliver_clken : (deliver s).clken = s.clken := rfl
@[simp] theorem deliver_trig : (deliver s).trig = s.trig := rfl
@[simp] theorem deliver_pend : (deliver s).pend = s.pend := rfl
@[simp] theorem deliver_portsel : (deliver s).portsel = s.portsel := rfl
@[simp] theorem deliver_prev : (deliver s).prev = s.prev := rfl
@[simp] theorem deliver_irqen : (deliver s).irqen = s.irqen := rfl
@[simp] theorem deliver_irqprio : (deliver s).irqprio = s.irqprio := rfl
@[simp] theorem deliver_bind : (deliver s).bind = s.bind := rfl
@[simp] theorem deliver_imask : (deliver s).imask = s.imask := rfl
@[simp] theorem deliver_insvc : (deliver s).insvc = s.insvc := rfl
@[simp] theorem deliver_fault : (deliver s).fault = s.fault := rfl
@[simp] theorem deliver_dpin : (deliver s).dpin = s.dpin := rfl
@[simp] theorem deliver_dstate : (deliver s).dstate = .idle := rfl
@[simp] theorem deliver_dphase : (deliver s).dphase = 0 := rfl
@[simp] theorem deliver_bitidx : (deliver s).bitidx = s.bitidx := rfl
@[simp] theorem deliver_oactive : (deliver s).oactive = s.oactive := rfl
@[simp] theorem deliver_cnt : (deliver s).cnt = s.cnt := rfl
@[simp] theorem deliver_opin : (deliver s).opin = s.opin := rfl
@[simp] theorem deliver_otarget : (deliver s).otarget = s.otarget := rfl
@[simp] theorem deliver_omax : (deliver s).omax = s.omax := rfl
@[simp] theorem deliver_ocnt : (deliver s).ocnt = s.ocnt := rfl
@[simp] theorem deliver_frame : (deliver s).frame = s.frame := rfl

@[simp] theorem samplePads_cfg : (samplePads e s).cfg = s.cfg := rfl
@[simp] theorem samplePads_inputs : (samplePads e s).inputs = s.inputs := rfl
@[simp] theorem samplePads_draws : (samplePads e s).draws = s.draws + 1 := rfl
@[simp] theorem samplePads_outputs : (samplePads e s).outputs = s.outputs := rfl
@[simp] theorem samplePads_dir : (samplePads e s).dir = s.dir := rfl
@[simp] theorem samplePads_pull : (samplePads e s).pull = s.pull := rfl
@[simp] theorem samplePads_odr : (samplePads e s).odr = s.odr := rfl
@[simp] theorem samplePads_clken : (samplePads e s).clken = s.clken := rfl
@[simp] theorem samplePads_trig : (samplePads e s).trig = s.trig := rfl
@[simp] theorem samplePads_pend : (samplePads e s).pend = s.pend := rfl
@[simp] theorem samplePads_portsel : (samplePads e s).portsel = s.portsel := rfl
@[simp] theorem samplePads_prev : (samplePads e s).prev = s.prev := rfl
@[simp] theorem samplePads_irqen : (samplePads e s).irqen = s.irqen := rfl
@[simp] theorem samplePads_irqprio : (samplePads e s).irqprio = s.irqprio := rfl
@[simp] theorem samplePads_bind : (samplePads e s).bind = s.bind := rfl
@[simp] theorem samplePads_imask : (samplePads e s).imask = s.imask := rfl
@[simp] theorem samplePads_insvc : (samplePads e s).insvc = s.insvc := rfl
@[simp] theorem samplePads_fault : (samplePads e s).fault = s.fault := rfl
@[simp] theorem samplePads_dpin : (samplePads e s).dpin = s.dpin := rfl
@[simp] theorem samplePads_dstate : (samplePads e s).dstate = s.dstate := rfl
@[simp] theorem samplePads_dphase : (samplePads e s).dphase = s.dphase := rfl
@[simp] theorem samplePads_bitidx : (samplePads e s).bitidx = s.bitidx := rfl
@[simp] theorem samplePads_oactive : (samplePads e s).oactive = s.oactive := rfl
@[simp] theorem samplePads_cnt : (samplePads e s).cnt = s.cnt := rfl
@[simp] theorem samplePads_opin : (samplePads e s).opin = s.opin := rfl
@[simp] theorem samplePads_otarget : (samplePads e s).otarget = s.otarget := rfl
@[simp] theorem samplePads_omax : (samplePads e s).omax = s.omax := rfl
@[simp] theorem samplePads_ocnt : (samplePads e s).ocnt = s.ocnt := rfl
@[simp] theorem samplePads_frame : (samplePads e s).frame = s.frame := rfl

@[simp] theorem detectEdges_cfg : (detectEdges s).cfg = s.cfg := rfl
@[simp] theorem detectEdges_inputs : (detectEdges s).inputs = s.inputs := rfl
@[simp] theorem detectEdges_draws : (detectEdges s).draws = s.draws := rfl
@[simp] theorem detectEdges_outputs : (detectEdges s).outputs = s.outputs := rfl
@[simp] theorem detectEdges_dir : (detectEdges s).dir = s.dir := rfl
@[simp] theorem detectEdges_pull : (detectEdges s).pull = s.pull := rfl
@[simp] theorem detectEdges_odr : (detectEdges s).odr = s.odr := rfl
@[simp] theorem detectEdges_padin : (detectEdges s).padin = s.padin := rfl
@[simp] theorem detectEdges_clken : (detectEdges s).clken = s.clken := rfl
@[simp] theorem detectEdges_trig : (detectEdges s).trig = s.trig := rfl
@[simp] theorem detectEdges_portsel : (detectEdges s).portsel = s.portsel := rfl
@[simp] theorem detectEdges_irqen : (detectEdges s).irqen = s.irqen := rfl
@[simp] theorem detectEdges_irqprio : (detectEdges s).irqprio = s.irqprio := rfl
@[simp] theorem detectEdges_bind : (detectEdges s).bind = s.bind := rfl
@[simp] theorem detectEdges_imask : (detectEdges s).imask = s.imask := rfl
@[simp] theorem detectEdges_insvc : (detectEdges s).insvc = s.insvc := rfl
@[simp] theorem detectEdges_fault : (detectEdges s).fault = s.fault := rfl
@[simp] theorem detectEdges_dpin : (detectEdges s).dpin = s.dpin := rfl
@[simp] theorem detectEdges_dstate : (detectEdges s).dstate = s.dstate := rfl
@[simp] theorem detectEdges_dphase : (detectEdges s).dphase = s.dphase := rfl
@[simp] theorem detectEdges_bitidx : (detectEdges s).bitidx = s.bitidx := rfl
@[simp] theorem detectEdges_oactive : (detectEdges s).oactive = s.oactive := rfl
@[simp] theorem detectEdges_cnt : (detectEdges s).cnt = s.cnt := rfl
@[simp] theorem detectEdges_opin : (detectEdges s).opin = s.opin := rfl
@[simp] theorem detectEdges_otarget : (detectEdges s).otarget = s.otarget := rfl
@[simp] theorem detectEdges_omax : (detectEdges s).omax = s.omax := rfl
@[simp] theorem detectEdges_ocnt : (detectEdges s).ocnt = s.ocnt := rfl
@[simp] theorem detectEdges_frame : (detectEdges s).frame = s.frame := rfl

@[simp] theorem takeInput_cfg : (takeInput s).cfg = s.cfg := rfl
@[simp] theorem takeInput_inputs : (takeInput s).inputs = s.inputs.tail := rfl
@[simp] theorem takeInput_draws : (takeInput s).draws = s.draws := rfl
@[simp] theorem takeInput_outputs : (takeInput s).outputs = s.outputs := rfl
@[simp] theorem takeInput_dir : (takeInput s).dir = s.dir := rfl
@[simp] theorem takeInput_pull : (takeInput s).pull = s.pull := rfl
@[simp] theorem takeInput_odr : (takeInput s).odr = s.odr := rfl
@[simp] theorem takeInput_padin : (takeInput s).padin = s.padin := rfl
@[simp] theorem takeInput_clken : (takeInput s).clken = s.clken := rfl
@[simp] theorem takeInput_trig : (takeInput s).trig = s.trig := rfl
@[simp] theorem takeInput_pend : (takeInput s).pend = s.pend := rfl
@[simp] theorem takeInput_portsel : (takeInput s).portsel = s.portsel := rfl
@[simp] theorem takeInput_prev : (takeInput s).prev = s.prev := rfl
@[simp] theorem takeInput_irqen : (takeInput s).irqen = s.irqen := rfl
@[simp] theorem takeInput_irqprio : (takeInput s).irqprio = s.irqprio := rfl
@[simp] theorem takeInput_bind : (takeInput s).bind = s.bind := rfl
@[simp] theorem takeInput_imask : (takeInput s).imask = s.imask := rfl
@[simp] theorem takeInput_insvc : (takeInput s).insvc = s.insvc := rfl
@[simp] theorem takeInput_fault : (takeInput s).fault = s.fault := rfl
@[simp] theorem takeInput_dpin : (takeInput s).dpin = s.dpin := rfl
@[simp] theorem takeInput_dstate : (takeInput s).dstate = s.dstate := rfl
@[simp] theorem takeInput_dphase : (takeInput s).dphase = s.dphase := rfl
@[simp] theorem takeInput_bitidx : (takeInput s).bitidx = s.bitidx := rfl
@[simp] theorem takeInput_oactive : (takeInput s).oactive = s.oactive := rfl
@[simp] theorem takeInput_cnt : (takeInput s).cnt = s.cnt := rfl
@[simp] theorem takeInput_opin : (takeInput s).opin = s.opin := rfl
@[simp] theorem takeInput_otarget : (takeInput s).otarget = s.otarget := rfl
@[simp] theorem takeInput_omax : (takeInput s).omax = s.omax := rfl
@[simp] theorem takeInput_ocnt : (takeInput s).ocnt = s.ocnt := rfl
@[simp] theorem takeInput_frame : (takeInput s).frame = s.frame := rfl

@[simp] theorem letDispatch_cfg : (letDispatch s).cfg = s.cfg := rfl
@[simp] theorem letDispatch_inputs : (letDispatch s).inputs = afterDispatch s.inputs := rfl
@[simp] theorem letDispatch_draws : (letDispatch s).draws = s.draws := rfl
@[simp] theorem letDispatch_outputs : (letDispatch s).outputs = s.outputs := rfl
@[simp] theorem letDispatch_dir : (letDispatch s).dir = s.dir := rfl
@[simp] theorem letDispatch_pull : (letDispatch s).pull = s.pull := rfl
@[simp] theorem letDispatch_odr : (letDispatch s).odr = s.odr := rfl
@[simp] theorem letDispatch_padin : (letDispatch s).padin = s.padin := rfl
@[simp] theorem letDispatch_clken : (letDispatch s).clken = s.clken := rfl
@[simp] theorem letDispatch_trig : (letDispatch s).trig = s.trig := rfl
@[simp] theorem letDispatch_pend : (letDispatch s).pend = s.pend := rfl
@[simp] theorem letDispatch_portsel : (letDispatch s).portsel = s.portsel := rfl
@[simp] theorem letDispatch_prev : (letDispatch s).prev = s.prev := rfl
@[simp] theorem letDispatch_irqen : (letDispatch s).irqen = s.irqen := rfl
@[simp] theorem letDispatch_irqprio : (letDispatch s).irqprio = s.irqprio := rfl
@[simp] theorem letDispatch_bind : (letDispatch s).bind = s.bind := rfl
@[simp] theorem letDispatch_imask : (letDispatch s).imask = s.imask := rfl
@[simp] theorem letDispatch_insvc : (letDispatch s).insvc = s.insvc := rfl
@[simp] theorem letDispatch_fault : (letDispatch s).fault = s.fault := rfl
@[simp] theorem letDispatch_dpin : (letDispatch s).dpin = s.dpin := rfl
@[simp] theorem letDispatch_dstate : (letDispatch s).dstate = s.dstate := rfl
@[simp] theorem letDispatch_dphase : (letDispatch s).dphase = s.dphase := rfl
@[simp] theorem letDispatch_bitidx : (letDispatch s).bitidx = s.bitidx := rfl
@[simp] theorem letDispatch_oactive : (letDispatch s).oactive = s.oactive := rfl
@[simp] theorem letDispatch_cnt : (letDispatch s).cnt = s.cnt := rfl
@[simp] theorem letDispatch_opin : (letDispatch s).opin = s.opin := rfl
@[simp] theorem letDispatch_otarget : (letDispatch s).otarget = s.otarget := rfl
@[simp] theorem letDispatch_omax : (letDispatch s).omax = s.omax := rfl
@[simp] theorem letDispatch_ocnt : (letDispatch s).ocnt = s.ocnt := rfl
@[simp] theorem letDispatch_frame : (letDispatch s).frame = s.frame := rfl

@[simp] theorem shiftIn_cfg : (shiftIn b s).cfg = s.cfg := rfl
@[simp] theorem shiftIn_inputs : (shiftIn b s).inputs = s.inputs := rfl
@[simp] theorem shiftIn_draws : (shiftIn b s).draws = s.draws := rfl
@[simp] theorem shiftIn_outputs : (shiftIn b s).outputs = s.outputs := rfl
@[simp] theorem shiftIn_dir : (shiftIn b s).dir = s.dir := rfl
@[simp] theorem shiftIn_pull : (shiftIn b s).pull = s.pull := rfl
@[simp] theorem shiftIn_odr : (shiftIn b s).odr = s.odr := rfl
@[simp] theorem shiftIn_padin : (shiftIn b s).padin = s.padin := rfl
@[simp] theorem shiftIn_clken : (shiftIn b s).clken = s.clken := rfl
@[simp] theorem shiftIn_trig : (shiftIn b s).trig = s.trig := rfl
@[simp] theorem shiftIn_pend : (shiftIn b s).pend = s.pend := rfl
@[simp] theorem shiftIn_portsel : (shiftIn b s).portsel = s.portsel := rfl
@[simp] theorem shiftIn_prev : (shiftIn b s).prev = s.prev := rfl
@[simp] theorem shiftIn_irqen : (shiftIn b s).irqen = s.irqen := rfl
@[simp] theorem shiftIn_irqprio : (shiftIn b s).irqprio = s.irqprio := rfl
@[simp] theorem shiftIn_bind : (shiftIn b s).bind = s.bind := rfl
@[simp] theorem shiftIn_imask : (shiftIn b s).imask = s.imask := rfl
@[simp] theorem shiftIn_insvc : (shiftIn b s).insvc = s.insvc := rfl
@[simp] theorem shiftIn_fault : (shiftIn b s).fault = s.fault := rfl
@[simp] theorem shiftIn_dpin : (shiftIn b s).dpin = s.dpin := rfl
@[simp] theorem shiftIn_dstate : (shiftIn b s).dstate = s.dstate := rfl
@[simp] theorem shiftIn_dphase : (shiftIn b s).dphase = s.dphase := rfl
@[simp] theorem shiftIn_bitidx : (shiftIn b s).bitidx = s.bitidx := rfl
@[simp] theorem shiftIn_oactive : (shiftIn b s).oactive = s.oactive := rfl
@[simp] theorem shiftIn_cnt : (shiftIn b s).cnt = s.cnt := rfl
@[simp] theorem shiftIn_opin : (shiftIn b s).opin = s.opin := rfl
@[simp] theorem shiftIn_otarget : (shiftIn b s).otarget = s.otarget := rfl
@[simp] theorem shiftIn_omax : (shiftIn b s).omax = s.omax := rfl
@[simp] theorem shiftIn_ocnt : (shiftIn b s).ocnt = s.ocnt := rfl

end Sys2Proof.Machine
end

