-- ==== Sys2Proof/Laws/Ops.lean ====
section
/-! SUPPORT. One lemma per shared operation: what it can do, to be cited instead of unfolding it. -/

namespace Sys2Proof.Machine

/-! The parameters. -/

/-- What every choice of the parameters meets (R6, R7, and log 11 for the last). -/
theorem config_constraints (c : Config) :
    1 ≤ c.nports ∧ c.nports ≤ 16 ∧ 1 ≤ c.usPerTick ∧ c.ackTimeout ≠ 0 ∧ c.bitTimeout ≠ 0 ∧ c.resetLow ≠ 0 ∧
      c.startHigh ≠ 0 ∧ c.bitTimeout.toNat * c.usPerTick < 2 ^ 32 ∧ 20000 ≤ c.resetLow.toNat * c.usPerTick ∧
      c.startHigh.toNat ≤ c.resetLow.toNat := by
  simpa only [paramsOk, Bool.and_eq_true, decide_eq_true_eq, and_assoc] using c.valid

/-! The order of the checks and the acceptance table. -/

@[simp] theorem firstCause_nil : firstCause [] = none := rfl

@[simp] theorem firstCause_cons (c : FaultCode) (applies : Bool) (rest : List (FaultCode × Bool)) :
    firstCause ((c, applies) :: rest) = if applies then some c else firstCause rest := rfl

/-- No cause is reported exactly if none applies. -/
theorem firstCause_eq_none (causes : List (FaultCode × Bool)) :
    firstCause causes = none ↔ ∀ x ∈ causes, x.2 = false := by
  induction causes with
  | nil => simp
  | cons x rest ih => obtain ⟨c, b⟩ := x; cases b <;> simp [ih]

/-- What a guarded command can do: take the first fault that applies, or have its effect. -/
theorem guarded_cases {causes : List (FaultCode × Bool)} {s effect t : State} (h : guarded causes s effect = .next t) :
    (∃ c, firstCause causes = some c ∧ t = takeFault c s) ∨ (firstCause causes = none ∧ t = effect) := by
  unfold guarded at h
  split at h
  · rename_i c hc
    exact .inl ⟨c, hc, by injection h with h; exact h.symm⟩
  · rename_i hn
    exact .inr ⟨hn, by injection h with h; exact h.symm⟩

theorem guarded_fault {causes : List (FaultCode × Bool)} {c : FaultCode} (h : firstCause causes = some c)
    (s effect : State) : guarded causes s effect = .next (takeFault c s) := by
  simp [guarded, h]

theorem guarded_effect {causes : List (FaultCode × Bool)} (h : firstCause causes = none) (s effect : State) :
    guarded causes s effect = .next effect := by
  simp [guarded, h]

/-- Ordinary commands are turned away in the blocked context only (R226). -/
theorem turnedAway_ordinary (s : State) : turnedAway .ordinary s = (!s.insvc && active s) := by
  unfold turnedAway context
  cases s.insvc <;> cases active s <;> rfl

/-- OBSERVE and READ are accepted in the foreground only (R226). -/
theorem turnedAway_blocking (s : State) : turnedAway .blocking s = (s.insvc || active s) := by
  unfold turnedAway context
  cases s.insvc <;> cases active s <;> rfl

/-- CB_RETURN is accepted in the handler only (R226). -/
theorem turnedAway_callbackReturn (s : State) : turnedAway .callbackReturn s = !s.insvc := by
  unfold turnedAway context
  cases s.insvc <;> cases active s <;> rfl

/-- An idle sequencer, in fields. -/
theorem active_eq_false {s : State} : active s = false ↔ s.dstate = .idle ∧ s.oactive = false := by
  simp [active]

/-! The level view. -/

/-- LEVEL depends on DIR, ODR and PADIN alone (R64). -/
theorem level_congr {s t : State} (hd : t.dir = s.dir) (ho : t.odr = s.odr) (hp : t.padin = s.padin) (p i : Nibble) :
    level t p i = level s p i := by
  simp [level, hd, ho, hp]

/-- An output pin shows its latch (R64). -/
theorem level_output {s : State} {p i : Nibble} (h : (bankGet s.dir p).getLsbD i.toNat = true) :
    level s p i = (bankGet s.odr p).getLsbD i.toNat := by
  simp [level, h]

/-- Any other pin shows its pad (R64). -/
theorem level_input {s : State} {p i : Nibble} (h : (bankGet s.dir p).getLsbD i.toNat = false) :
    level s p i = pinGet s.padin p i := by
  simp [level, h]

/-! Pad sampling and the edge detector. -/

/-- PADIN after pad sampling (R63). -/
theorem samplePads_padin (ext : Nibble → Nibble → Ext) (s : State) (p i : Nibble) :
    pinGet (samplePads ext s).padin p i =
      if p.toNat < s.cfg.nports then sampledPad (ext p i) (pinGet s.pull p i) (Config.draw s.draws p i)
      else pinGet s.padin p i := by
  simp only [pinGet, samplePads, bankGet_bankOf]
  split <;> simp

/-- PREV after the edge detector (R139). -/
theorem detectEdges_prev (s : State) (i : Nibble) :
    bankGet (detectEdges s).prev i = level s (bankGet s.portsel i) i := by
  simp [detectEdges]

/-- PEND after the edge detector (R139). -/
theorem detectEdges_pend (s : State) (i : Nibble) :
    bankGet (detectEdges s).pend i =
      (bankGet s.pend i ||
        edgeSeen (bankGet s.trig i) (bankGet s.prev i) (level s (bankGet s.portsel i) i)) := by
  simp [detectEdges]

/-! Dispatch. -/

/-- In a list in ascending order, what is found first is the lowest that qualifies. -/
theorem find_some_iff_lowest (f : Nibble → Bool) (i : Nibble) (l : List Nibble)
    (sorted : l.Pairwise fun a b => a.toNat < b.toNat) :
    l.find? f = some i ↔ i ∈ l ∧ f i = true ∧ ∀ j ∈ l, j.toNat < i.toNat → f j = false := by
  induction l with
  | nil => simp
  | cons a l ih =>
    obtain ⟨hlow, hsorted⟩ := List.pairwise_cons.mp sorted
    rw [List.find?_cons]
    cases ha : f a
    · rw [ih hsorted]
      constructor
      · rintro ⟨hm, hf, hj⟩
        exact ⟨List.mem_cons_of_mem _ hm, hf, fun j hjm hlt => (List.mem_cons.mp hjm).elim (· ▸ ha) (hj j · hlt)⟩
      · rintro ⟨hm, hf, hj⟩
        refine ⟨(List.mem_cons.mp hm).resolve_left ?_, hf, fun j hjm => hj j (List.mem_cons_of_mem _ hjm)⟩
        rintro rfl
        simp [ha] at hf
    · constructor
      · intro h
        injection h with h
        subst h
        refine ⟨List.mem_cons_self, ha, fun j hjm hlt => ?_⟩
        rcases List.mem_cons.mp hjm with rfl | hjm
        · omega
        · have := hlow j hjm
          omega
      · rintro ⟨hm, hf, hj⟩
        rcases List.mem_cons.mp hm with rfl | hm
        · rfl
        · have := hj a List.mem_cons_self (hlow i hm)
          simp [ha] at this

/-- The due line is the lowest enabled one (R13, R212). -/
theorem dueLine_eq_some {s : State} {i : Nibble} :
    dueLine s = some i ↔ dispatchable s i = true ∧ ∀ j : Nibble, j.toNat < i.toNat → dispatchable s j = false := by
  rw [dueLine, find_some_iff_lowest _ _ _ (by decide)]
  simp

/-- No line is due exactly if none is enabled. -/
theorem dueLine_eq_none {s : State} : dueLine s = none ↔ ∀ i : Nibble, dispatchable s i = false := by
  simp [dueLine, List.find?_eq_none]

/-- While IMASK or INSVC is 1 no Dispatch is enabled (R218). -/
theorem dueLine_masked {s : State} (h : s.imask = true ∨ s.insvc = true) : dueLine s = none := by
  rw [dueLine_eq_none]
  intro i
  rcases h with h | h <;> simp [dispatchable, h]

/-- All that a Dispatch can do (R215): invoke the callback, or only clear the pending flag. -/
theorem dispatchLine_cases (i : Nibble) (s : State) :
    (invokes i (bankGet s.trig i) (level s s.bind.port i) = true ∧
      dispatchLine i s = { s with
        pend := bankSet s.pend i false, insvc := true, outputs := s.outputs ++ [.cbInvoke s.bind.cb i] }) ∨
    (invokes i (bankGet s.trig i) (level s s.bind.port i) = false ∧
      dispatchLine i s = { s with pend := bankSet s.pend i false }) := by
  unfold dispatchLine
  cases h : invokes i (bankGet s.trig i) (level s s.bind.port i)
  · exact .inr ⟨rfl, by simp⟩
  · exact .inl ⟨rfl, by simp [emit]⟩

/-! The observer. -/

/-- All that the observer micro-step can do (R155): a match ends it with the count, the bound with 0, else it goes on. -/
theorem observerStep_cases (ended : Half → State → State) (s : State) :
    (level s s.opin.port s.opin.index = s.otarget ∧ observerStep ended s = ended (s.ocnt + 1) (polled s)) ∨
    (level s s.opin.port s.opin.index ≠ s.otarget ∧ s.omax ≤ s.ocnt + 1 ∧ observerStep ended s = ended 0 (polled s)) ∨
    (level s s.opin.port s.opin.index ≠ s.otarget ∧ s.ocnt + 1 < s.omax ∧ observerStep ended s = polled s) := by
  have hl : level (polled s) (polled s).opin.port (polled s).opin.index = level s s.opin.port s.opin.index := rfl
  unfold observerStep pollResult
  rw [hl, polled_otarget, polled_omax, polled_ocnt]
  by_cases h : level s s.opin.port s.opin.index = s.otarget
  · exact .inl ⟨h, by rw [if_pos h]⟩
  · by_cases hb : s.omax ≤ s.ocnt + 1
    · exact .inr (.inl ⟨h, hb, by rw [if_neg h, if_pos hb]⟩)
    · exact .inr (.inr ⟨h, BitVec.not_le.mp hb, by rw [if_neg h, if_neg hb]⟩)

end Sys2Proof.Machine
end

