-- ==== Sys2Proof/Laws/PerInstr.lean ====
section
/-! SUPPORT. Statements made per command. `EncodeFitsRow`: the encoder's word belongs to its command's row of the opcode
table (30_encoding.md R86), and its `sub` is one of those the row allows (R94). -/

namespace Sys2Proof.Laws.EncodeFitsRow

/-- The word of the command is a word of its row. -/
def Statement (i : Instr) : Prop := (rowOf i).admits (encode i) = true

/-- What has to be shown: the fixed bits, and the `sub` field. -/
theorem of_fields {i : Instr} (h : encode i &&& (rowOf i).mask = (rowOf i).pattern)
    (hs : (fieldsOf i).sub.toNat ≤ (rowOf i).subMax) : Statement i := by
  have hj : (encode i).extractLsb' 48 4 = (fieldsOf i).sub := congrArg Fields.sub (split_join (fieldsOf i))
  unfold Statement Row.admits
  rw [h, hj]
  simpa using hs

theorem setMode (pin : Pin) (mode : PinMode) : Statement (.setMode pin mode) := by
  cases mode
  all_goals
    refine of_fields (BitVec.eq_of_getLsbD_eq fun k hk => ?_) (by simp [fieldsOf, rowOf, pinModeCode])
    simp only [encode, joinFields, fieldsOf, rowOf, pinModeCode, BitVec.getLsbD_and, BitVec.getLsbD_append]
    interval_cases k <;> simp

theorem set (pin : Pin) (b : Level) : Statement (.set pin b) := by
  cases b
  all_goals
    refine of_fields (BitVec.eq_of_getLsbD_eq fun k hk => ?_) (by simp [fieldsOf, rowOf, levelCode])
    simp only [encode, joinFields, fieldsOf, rowOf, levelCode, BitVec.getLsbD_and, BitVec.getLsbD_append]
    interval_cases k <;> simp

theorem get (pin : Pin) : Statement (.get pin) := by
  refine of_fields (BitVec.eq_of_getLsbD_eq fun k hk => ?_) (by simp [fieldsOf, rowOf])
  simp only [encode, joinFields, fieldsOf, rowOf, BitVec.getLsbD_and, BitVec.getLsbD_append]
  interval_cases k <;> simp

theorem toggle (pin : Pin) : Statement (.toggle pin) := by
  refine of_fields (BitVec.eq_of_getLsbD_eq fun k hk => ?_) (by simp [fieldsOf, rowOf])
  simp only [encode, joinFields, fieldsOf, rowOf, BitVec.getLsbD_and, BitVec.getLsbD_append]
  interval_cases k <;> simp

theorem setRange (pin : Pin) (count : BitVec 5) (value : Half) : Statement (.setRange pin count value) := by
  refine of_fields (BitVec.eq_of_getLsbD_eq fun k hk => ?_) (by simp [fieldsOf, rowOf])
  simp only [encode, joinFields, fieldsOf, rowOf, BitVec.getLsbD_and, BitVec.getLsbD_append]
  interval_cases k <;> simp

theorem getRange (pin : Pin) (count : BitVec 5) : Statement (.getRange pin count) := by
  refine of_fields (BitVec.eq_of_getLsbD_eq fun k hk => ?_) (by simp [fieldsOf, rowOf])
  simp only [encode, joinFields, fieldsOf, rowOf, BitVec.getLsbD_and, BitVec.getLsbD_append]
  interval_cases k <;> simp

theorem setTrigger (pin : Pin) (mode : TriggerMode) : Statement (.setTrigger pin mode) := by
  cases mode
  all_goals
    refine of_fields (BitVec.eq_of_getLsbD_eq fun k hk => ?_) (by simp [fieldsOf, rowOf, triggerCode])
    simp only [encode, joinFields, fieldsOf, rowOf, triggerCode, BitVec.getLsbD_and, BitVec.getLsbD_append]
    interval_cases k <;> simp

theorem setCallback (pin : Pin) (token : BitVec 32) : Statement (.setCallback pin token) := by
  refine of_fields (BitVec.eq_of_getLsbD_eq fun k hk => ?_) (by simp [fieldsOf, rowOf])
  simp only [encode, joinFields, fieldsOf, rowOf, BitVec.getLsbD_and, BitVec.getLsbD_append]
  interval_cases k <;> simp

theorem observe (pin : Pin) (b : Level) (maxTicks : Half) : Statement (.observe pin b maxTicks) := by
  cases b
  all_goals
    refine of_fields (BitVec.eq_of_getLsbD_eq fun k hk => ?_) (by simp [fieldsOf, rowOf, levelCode])
    simp only [encode, joinFields, fieldsOf, rowOf, levelCode, BitVec.getLsbD_and, BitVec.getLsbD_append]
    interval_cases k <;> simp

theorem read (pin : Pin) : Statement (.read pin) := by
  refine of_fields (BitVec.eq_of_getLsbD_eq fun k hk => ?_) (by simp [fieldsOf, rowOf])
  simp only [encode, joinFields, fieldsOf, rowOf, BitVec.getLsbD_and, BitVec.getLsbD_append]
  interval_cases k <;> simp

theorem cbReturn : Statement (.cbReturn) := by
  unfold Statement
  decide

end Sys2Proof.Laws.EncodeFitsRow
end

