-- ==== Sys2Proof/Laws/Step.lean ====
section
/-! SUPPORT. What a sequencer micro-step and a Tick leave alone, and all that one step can do. -/

namespace Sys2Proof.Machine

/-- The two states agree in everything that no rule of the sequencer writes. -/
def sequencerOnly (s t : State) : Prop :=
  t = { s with
    dir := t.dir, pull := t.pull, odr := t.odr, clken := t.clken, outputs := t.outputs, imask := t.imask,
    dstate := t.dstate, dphase := t.dphase, bitidx := t.bitidx, oactive := t.oactive, cnt := t.cnt, opin := t.opin,
    otarget := t.otarget, omax := t.omax, ocnt := t.ocnt, frame := t.frame }

theorem observerStep_only {ended : Half → State → State} (s : State)
    (he : ∀ r, sequencerOnly s (ended r (polled s))) : sequencerOnly s (observerStep ended s) := by
  rcases observerStep_cases ended s with ⟨_, h⟩ | ⟨_, _, h⟩ | ⟨_, _, h⟩ <;> rw [h]
  · exact he _
  · exact he _
  · rfl

/-- A micro-step writes nothing but what the rules of the sequencer write (R155, R167 to R183). -/
theorem microStep_only (s : State) : sequencerOnly s (microStep s) := by
  unfold microStep
  split
  · split
    · exact observerStep_only s fun _ => rfl
    · rfl
  · split
    · unfold lowHold; dsimp only; split <;> rfl
    · split
      · unfold highHold; dsimp only; split <;> rfl
      · split
        · unfold checkRelease; split <;> rfl
        · rfl
  · exact observerStep_only s fun r => by unfold ack1Ended; split <;> rfl
  · exact observerStep_only s fun r => by unfold ack2Ended; split <;> rfl
  · split
    · exact observerStep_only s fun r => by unfold waitHighEnded; split <;> rfl
    · split
      · exact observerStep_only s fun r => by
          unfold measureEnded
          split
          · rfl
          · unfold advanceBit; split <;> rfl
      · rfl
  · rfl
  · rfl

section MicroStepFields

variable (s : State)

@[simp] theorem microStep_cfg : (microStep s).cfg = s.cfg := by rw [microStep_only s]

@[simp] theorem microStep_inputs : (microStep s).inputs = s.inputs := by rw [microStep_only s]

@[simp] theorem microStep_draws : (microStep s).draws = s.draws := by rw [microStep_only s]

@[simp] theorem microStep_padin : (microStep s).padin = s.padin := by rw [microStep_only s]

@[simp] theorem microStep_trig : (microStep s).trig = s.trig := by rw [microStep_only s]

@[simp] theorem microStep_pend : (microStep s).pend = s.pend := by rw [microStep_only s]

@[simp] theorem microStep_portsel : (microStep s).portsel = s.portsel := by rw [microStep_only s]

@[simp] theorem microStep_prev : (microStep s).prev = s.prev := by rw [microStep_only s]

@[simp] theorem microStep_irqen : (microStep s).irqen = s.irqen := by rw [microStep_only s]

@[simp] theorem microStep_irqprio : (microStep s).irqprio = s.irqprio := by rw [microStep_only s]

@[simp] theorem microStep_bind : (microStep s).bind = s.bind := by rw [microStep_only s]

@[simp] theorem microStep_insvc : (microStep s).insvc = s.insvc := by rw [microStep_only s]

@[simp] theorem microStep_fault : (microStep s).fault = s.fault := by rw [microStep_only s]

@[simp] theorem microStep_dpin : (microStep s).dpin = s.dpin := by rw [microStep_only s]

end MicroStepFields

/-- The sequencer's part of a Tick leaves alone what a micro-step leaves alone. -/
theorem advanceSequencer_keeps {α : Type} {field : State → α} (h : ∀ s, field (microStep s) = field s) (s : State) :
    field (advanceSequencer s) = field s := by
  unfold advanceSequencer
  split
  · exact h s
  · rfl

section TickFields

variable (ext : Nibble → Nibble → Ext) (s : State)

@[simp] theorem tick_cfg : (tick ext s).cfg = s.cfg := by
  simpa [tick] using advanceSequencer_keeps (field := (·.cfg)) microStep_cfg (samplePads ext s)

@[simp] theorem tick_inputs : (tick ext s).inputs = s.inputs := by
  simpa [tick] using advanceSequencer_keeps (field := (·.inputs)) microStep_inputs (samplePads ext s)

@[simp] theorem tick_trig : (tick ext s).trig = s.trig := by
  simpa [tick] using advanceSequencer_keeps (field := (·.trig)) microStep_trig (samplePads ext s)

@[simp] theorem tick_portsel : (tick ext s).portsel = s.portsel := by
  simpa [tick] using advanceSequencer_keeps (field := (·.portsel)) microStep_portsel (samplePads ext s)

@[simp] theorem tick_irqen : (tick ext s).irqen = s.irqen := by
  simpa [tick] using advanceSequencer_keeps (field := (·.irqen)) microStep_irqen (samplePads ext s)

@[simp] theorem tick_irqprio : (tick ext s).irqprio = s.irqprio := by
  simpa [tick] using advanceSequencer_keeps (field := (·.irqprio)) microStep_irqprio (samplePads ext s)

@[simp] theorem tick_bind : (tick ext s).bind = s.bind := by
  simpa [tick] using advanceSequencer_keeps (field := (·.bind)) microStep_bind (samplePads ext s)

@[simp] theorem tick_insvc : (tick ext s).insvc = s.insvc := by
  simpa [tick] using advanceSequencer_keeps (field := (·.insvc)) microStep_insvc (samplePads ext s)

@[simp] theorem tick_fault : (tick ext s).fault = s.fault := by
  simpa [tick] using advanceSequencer_keeps (field := (·.fault)) microStep_fault (samplePads ext s)

@[simp] theorem tick_dpin : (tick ext s).dpin = s.dpin := by
  simpa [tick] using advanceSequencer_keeps (field := (·.dpin)) microStep_dpin (samplePads ext s)

end TickFields

/-- All that one step can do (R11). -/
theorem step_cases {s t : State} (h : step s = .next t) :
    (nextAction s = .reset ∧ t = resetStep (takeInput s)) ∨
    (∃ line, nextAction s = .dispatch line ∧ t = dispatchLine line (letDispatch s)) ∨
    (∃ word i, nextAction s = .command word ∧ decode word = .ok i ∧ exec i (takeInput s) = .next t) ∨
    (∃ word why, nextAction s = .command word ∧ decode word = .error why ∧
      t = takeFault .illegalCommand (takeInput s)) ∨
    (∃ driven, nextAction s = .tick driven ∧ t = tick (drivenExt driven) (takeInput s)) ∨
    (nextAction s = .freeTick ∧ t = tick (Config.freeExt s.draws) s) := by
  unfold step at h
  split at h
  · exact .inl ⟨by assumption, by injection h with h; exact h.symm⟩
  · rename_i line hl
    exact .inr (.inl ⟨line, hl, by injection h with h; exact h.symm⟩)
  · rename_i word hw
    unfold runWord at h
    split at h
    · rename_i i hi
      exact .inr (.inr (.inl ⟨word, i, hw, hi, h⟩))
    · rename_i why hi
      exact .inr (.inr (.inr (.inl ⟨word, why, hw, hi, by injection h with h; exact h.symm⟩)))
  · rename_i driven hd
    exact .inr (.inr (.inr (.inr (.inl ⟨driven, hd, by injection h with h; exact h.symm⟩))))
  · exact .inr (.inr (.inr (.inr (.inr ⟨by assumption, by injection h with h; exact h.symm⟩))))

/-- A Dispatch comes next only for the due line (R13). -/
theorem dispatch_due {s : State} {line : Nibble} (h : nextAction s = .dispatch line) : dueLine s = some line := by
  unfold nextAction at h
  split at h
  · cases h
  · split at h
    · rename_i l hl
      injection h with h
      rw [hl, h]
    · unfold askedFor at h
      split at h <;> cases h

/-- A command or a Tick comes next only if no line is due (R13). -/
theorem nothing_due {s : State} (h : ∀ line, nextAction s ≠ .dispatch line) (hr : nextAction s ≠ .reset) :
    dueLine s = none := by
  unfold nextAction at h hr
  split at hr
  · exact absurd rfl hr
  · rename_i hn
    cases hd : dueLine s with
    | none => rfl
    | some l => exact absurd (by simp [hn, hd]) (h l)

/-- With no line due, a Tick that stands next in the schedule is what the step does (R11, R12). -/
theorem step_tick {s : State} {driven : List (Pin × Level)} {rest : List Input} (hi : s.inputs = .tick driven :: rest)
    (hd : dueLine s = none) : step s = .next (tick (drivenExt driven) { s with inputs := rest }) := by
  have hn : nextAction s = .tick driven := by simp [nextAction, hi, resetNow, hd, askedFor]
  rw [step, hn]
  simp [takeInput, hi]

/-- A Tick with an active sequencer and no callback in service, in its three steps (R12). -/
theorem tick_active {s : State} (ext : Nibble → Nibble → Ext) (ha : s.dstate ≠ .idle ∨ s.oactive = true)
    (hi : s.insvc = false) : tick ext s = detectEdges (microStep (samplePads ext s)) := by
  have : active (samplePads ext s) = true := by
    simp only [active, samplePads_dstate, samplePads_oactive, Bool.or_eq_true, bne_iff_ne]
    exact ha
  simp [tick, advanceSequencer, this, hi]

/-- A run of k + 1 steps takes the first and goes on. -/
theorem run_cons (M : Host.Core) {k : Nat} {a b : M.State} (h : M.step a = .next b) : M.run (k + 1) a = M.run k b := by
  simp [Host.Core.run, h]

/-- The same for this machine. -/
theorem run_step {k : Nat} {s t : State} (h : step s = .next t) : core.run (k + 1) s = core.run k t := run_cons core h

/-- Two runs, one after the other. -/
theorem run_add (M : Host.Core) (m k : Nat) (a b : M.State) (h : M.run m a = .next b) :
    M.run (m + k) a = M.run k b := by
  induction m generalizing a with
  | zero =>
    simp only [Host.Core.run] at h
    injection h with h
    rw [h, Nat.zero_add]
  | succ m ih =>
    rw [Nat.add_right_comm]
    simp only [Host.Core.run] at h ⊢
    split at h
    · exact ih _ h
    · cases h
    · cases h

end Sys2Proof.Machine
end

