-- ==== Sys2Proof/Machine/Pseudo.lean ====
section
/-! DEFINITION. The two pseudo-operations (30_encoding.md R104, R105) and the textual form of commands and of the steps that
are no commands (R103, log 20). -/

namespace Sys2Proof.Machine

/-- `configure(pin) -> handle`: no command, the handle is the pin's 8-bit encoding (R104). -/
def configureHandle (pin : Pin) : Byte := pinCode pin

/-- `read(handle)`: the command that carries the handle in its port and index fields (R104). -/
def readHandle (handle : Byte) : Instr := .read (pinOf handle)

/-- `register_edge_callback(pin, trigger_mode, callback)`: two commands in this order, bind before arming (R105). -/
def registerEdgeCallback (pin : Pin) (mode : TriggerMode) (token : BitVec 32) : List Instr :=
  [.setCallback pin token, .setTrigger pin mode]

/-- `P<port>.<index>` in decimal (R103). -/
def pinText (pin : Pin) : String := "P" ++ toString pin.port.toNat ++ "." ++ toString pin.index.toNat

/-- A mode by LAB3's name (R103). -/
def modeText : PinMode → String
  | .reset => "Reset"
  | .input => "Input"
  | .output => "Output"
  | .pullUp => "PullUp"
  | .pullDown => "PullDown"

/-- A trigger mode by LAB3's name (R103). -/
def triggerText : TriggerMode → String
  | .none => "None"
  | .rising => "Rising"
  | .falling => "Falling"

/-- A level (R103). -/
def levelText (b : Level) : String := if b then "high" else "low"

/-- `name(a, b, ...)`, the call form (R103). -/
def callText (name : String) (args : List String) : String := name ++ "(" ++ ", ".intercalate args ++ ")"

/-- A command in LAB3's call form, lower case (R103). -/
def instrText : Instr → String
  | .setMode pin mode => callText "set_mode" [pinText pin, modeText mode]
  | .set pin b => callText "set" [pinText pin, levelText b]
  | .get pin => callText "get" [pinText pin]
  | .toggle pin => callText "toggle" [pinText pin]
  | .setRange pin count value => callText "set_range" [pinText pin, toString count.toNat, toString value.toNat]
  | .getRange pin count => callText "get_range" [pinText pin, toString count.toNat]
  | .setTrigger pin mode => callText "set_trigger" [pinText pin, triggerText mode]
  | .setCallback pin token => callText "set_callback" [pinText pin, toString token.toNat]
  | .observe pin b maxTicks => callText "observe" [pinText pin, levelText b, toString maxTicks.toNat]
  | .read pin => callText "read" [pinText pin]
  | .cbReturn => callText "cb_return" []

/-- One driven pad of a Tick, `P0.7=0`. -/
def driveText (d : Pin × Level) : String := pinText d.1 ++ "=" ++ (if d.2 then "1" else "0")

/-- `tick(...)` with the Ext of the pads that are driven, all others Z (R103). -/
def tickText (driven : List (Pin × Level)) : String := callText "tick" (driven.map driveText)

/-- `reset` (R103). -/
def resetText : String := "reset"

end Sys2Proof.Machine
end

