-- ==== Sys2Proof/Tests/Slice0.lean ====
section
/-! SUPPORT. Own tests. Expected values are those of 95_test_vectors.md (named V-… and S…) unless a comment says how they
follow; and for every statement with hypotheses a witness: a concrete state and operands that meet all of them. -/

namespace Sys2Proof.Tests

open Sys2Proof Sys2Proof.Machine

/-! ## Decoding (V-E1 to V-E23) -/

theorem test_decode_gpio :
    decode 0x1132_0000_0000_0000 = .ok (.setMode ⟨1, 3⟩ .output) ∧
    decode 0x2131_0000_0000_0000 = .ok (.set ⟨1, 3⟩ true) ∧
    decode 0x3050_0000_0000_0000 = .ok (.get ⟨0, 5⟩) ∧
    decode 0x4130_0000_0000_0000 = .ok (.toggle ⟨1, 3⟩) ∧
    decode 0x5040_4000_0000_00A5 = .ok (.setRange ⟨0, 4⟩ 8 0xA5) ∧
    decode 0x6000_8000_0000_0000 = .ok (.getRange ⟨0, 0⟩ 16) := by decide

theorem test_decode_others :
    decode 0x7022_0000_0000_0000 = .ok (.setTrigger ⟨0, 2⟩ .falling) ∧
    decode 0x8020_0000_CAFE_0001 = .ok (.setCallback ⟨0, 2⟩ 0xCAFE0001) ∧
    decode 0x9070_0000_0000_0064 = .ok (.observe ⟨0, 7⟩ false 100) ∧
    decode 0xA070_0000_0000_0000 = .ok (.read ⟨0, 7⟩) ∧
    decode 0xB000_0000_0000_0000 = .ok .cbReturn := by decide

theorem test_decode_illegal :
    decode 0x0000_0000_0000_0000 = .error .reservedOp ∧ decode 0xC000_0000_0000_0000 = .error .reservedOp ∧
    decode 0xFFFF_FFFF_FFFF_FFFF = .error .reservedOp ∧ decode 0x1005_0000_0000_0000 = .error .badPinMode ∧
    decode 0x1002_0000_0000_0001 = .error .unusedField ∧ decode 0x2002_0000_0000_0000 = .error .badLevel ∧
    decode 0x3001_0000_0000_0000 = .error .unusedField ∧ decode 0x7003_0000_0000_0000 = .error .badTrigger ∧
    decode 0x5000_0800_0001_0000 = .error .unusedField ∧ decode 0x5000_0801_0000_0000 = .error .unusedField ∧
    decode 0xB100_0000_0000_0000 = .error .unusedField ∧ decode 0x1207_0000_0000_0000 = .error .badPinMode := by decide

/-- Each constructor's word, written out from R86 (V-E1 to V-E11), is what the encoder gives. -/
theorem test_encode :
    encode (.setMode ⟨1, 3⟩ .output) = 0x1132_0000_0000_0000 ∧ encode (.setRange ⟨0, 4⟩ 8 0xA5) = 0x5040_4000_0000_00A5 ∧
    encode (.setCallback ⟨0, 2⟩ 0xCAFE0001) = 0x8020_0000_CAFE_0001 ∧
    encode (.observe ⟨0, 7⟩ false 100) = 0x9070_0000_0000_0064 ∧ encode .cbReturn = 0xB000_0000_0000_0000 := by decide

theorem test_decodeTableWord :
    decodeTableWord 64 0x4130_0000_0000_0000 = some (.toggle ⟨1, 3⟩) ∧ decodeTableWord 64 0 = none := by decide

/-- R103, the example of R110. -/
theorem test_text : instrText (.setMode ⟨1, 3⟩ .output) = "set_mode(P1.3, Output)" := by decide

/-! ## WellFormed: one ill-formed command per check -/

theorem test_wellFormed_port : (Instr.get ⟨2, 0⟩).wellFormed 2 = false ∧ (Instr.get ⟨1, 15⟩).wellFormed 2 = true := by
  decide

theorem test_wellFormed_range :
    (Instr.getRange ⟨0, 15⟩ 2).wellFormed 2 = false ∧ (Instr.getRange ⟨0, 15⟩ 1).wellFormed 2 = true := by decide

/-! ## Small states -/

/-- After Reset, with every pad and PREV sampled low (R241 leaves them open). -/
def bench : State := { State.reset with padin := bankAll (bankAll false), prev := bankAll false }

/-- With every port's clock on. -/
def clocked : State := { bench with clken := bankAll true }

/-- The common start of V-X1: a button with a pull-up on P0.2, bound to a callback. -/
def button : State :=
  { clocked with
    pull := pinSet clocked.pull 0 2 .up, padin := pinSet clocked.padin 0 2 true, prev := bankSet clocked.prev 2 true
    irqen := clocked.irqen.set (2 : Fin 7) true, irqprio := clocked.irqprio.set (2 : Fin 7) 0x40
    bind := ⟨true, 0, 2, 0xCAFE0001⟩, trig := bankSet clocked.trig 2 .falling }

/-- V-X1's end state: the callback of the button in service. -/
def serving : State := { button with insvc := true }

/-- An observation of P0.7 for its high level, bound 5 (V-O1). -/
def watching : State := { clocked with opin := ⟨0, 7⟩, otarget := true, omax := 5, oactive := true }

/-- A decode of the wire P0.7, right after the READ (P3). -/
def reading : State :=
  { bench with
    dpin := ⟨0, 7⟩, clken := bankSet bench.clken 0 true, dir := bankSet bench.dir 0 0x0080, dstate := .requestPulse }

/-- The same decode in the high hold. -/
def holding : State := { reading with dphase := phaseHigh, imask := true, odr := bankSet bench.odr 0 0x0080 }

/-- The same decode after the release. -/
def checking : State := { holding with dphase := phaseCheck, dir := bankSet bench.dir 0 0, cnt := 20 }

/-- The same decode waiting for the first acknowledge level. -/
def acking : State :=
  { checking with dstate := .awaitAck1, dphase := 0, opin := ⟨0, 7⟩, otarget := true, omax := 700 }

/-- The same decode waiting for the high level of a bit. -/
def awaiting : State := { acking with dstate := .bitCapture, dphase := phaseWaitHigh, omax := 700 }

/-- The same decode measuring a high pulse that has been polled `n` times. -/
def measuring (n : Half) : State := { awaiting with dphase := phaseMeasure, otarget := false, ocnt := n }

/-! ## One step each -/

/-- V-G1. -/
theorem test_setMode : ∃ t, exec (.setMode ⟨1, 3⟩ .output) bench = .next t ∧ bankGet t.clken 1 = true ∧
    bankGet t.clken 0 = false ∧ bankGet t.dir 1 = 0x0008 ∧ pinGet t.pull 1 3 = .none ∧ t.outputs = [.rsp 0] :=
  ⟨_, rfl, by decide⟩

/-- V-G3: mode Reset touches neither the latch nor the clock. -/
theorem test_setMode_reset : ∃ t,
    exec (.setMode ⟨0, 5⟩ .reset) { clocked with dir := bankSet bench.dir 0 0x0020, odr := bankSet bench.odr 0 0x0020 } =
      .next t ∧ bankGet t.dir 0 = 0 ∧ bankGet t.odr 0 = 0x0020 ∧ bankGet t.clken 0 = true :=
  ⟨_, rfl, by decide⟩

/-- V-G4. -/
theorem test_set : ∃ t, exec (.set ⟨1, 3⟩ true) { clocked with odr := bankSet bench.odr 1 0x00F0 } = .next t ∧
    bankGet t.odr 1 = 0x00F8 ∧ t.outputs = [.rsp 0] :=
  ⟨_, rfl, by decide⟩

/-- V-G18: the clock is per port. -/
theorem test_set_clockOff : ∃ t, exec (.set ⟨1, 0⟩ true) { bench with clken := bankSet bench.clken 0 true } = .next t ∧
    bankGet t.odr 1 = 0 ∧ t.fault = 0x20 ∧ t.outputs = [.rsp 0x5000_0000] :=
  ⟨_, rfl, by decide⟩

/-- V-G6. -/
theorem test_get : ∃ t, exec (.get ⟨0, 5⟩) { clocked with padin := pinSet bench.padin 0 5 true } = .next t ∧
    t.outputs = [.rsp 1] :=
  ⟨_, rfl, by decide⟩

/-- V-G7: of an input the pad is read, not the latch. -/
theorem test_get_pad : ∃ t, exec (.get ⟨0, 5⟩) { clocked with odr := bankSet bench.odr 0 0x0020 } = .next t ∧
    t.outputs = [.rsp 0] :=
  ⟨_, rfl, by decide⟩

/-- V-G5. -/
theorem test_toggle : ∃ t, exec (.toggle ⟨1, 3⟩) { clocked with odr := bankSet bench.odr 1 0x00F8 } = .next t ∧
    bankGet t.odr 1 = 0x00F0 :=
  ⟨_, rfl, by decide⟩

/-- V-G12: the value is masked to `count` bits. -/
theorem test_setRange : ∃ t,
    exec (.setRange ⟨0, 4⟩ 4 0xFFF5) { clocked with odr := bankSet bench.odr 0 0x3EEF } = .next t ∧
      bankGet t.odr 0 = 0x3E5F :=
  ⟨_, rfl, by decide⟩

/-- V-G15: RangeOverflow before ClockOff. -/
theorem test_setRange_overflow : ∃ t, exec (.setRange ⟨0, 15⟩ 2 3) bench = .next t ∧
    bankGet t.odr 0 = 0 ∧ t.fault = 0x08 ∧ t.outputs = [.rsp 0x3000_0000] :=
  ⟨_, rfl, by decide⟩

/-- V-G13. -/
theorem test_getRange : ∃ t,
    exec (.getRange ⟨0, 0⟩ 16)
      { clocked with odr := bankSet bench.odr 0 0x3E5F, dir := bankSet bench.dir 0 0xFFFF } = .next t ∧
      t.outputs = [.rsp 0x0000_3E5F] :=
  ⟨_, rfl, by decide⟩

/-- V-G14, the first of the three. -/
theorem test_getRange_part : ∃ t,
    exec (.getRange ⟨0, 4⟩ 8)
      { clocked with odr := bankSet bench.odr 0 0x3E5F, dir := bankSet bench.dir 0 0xFFFF } = .next t ∧
      t.outputs = [.rsp 0x0000_00E5] :=
  ⟨_, rfl, by decide⟩

/-- V-X12: the port is checked though not used. -/
theorem test_setTrigger : ∃ t, exec (.setTrigger ⟨2, 3⟩ .rising) bench = .next t ∧ bankGet t.trig 3 = .none ∧
    t.fault = 0x04 ∧ t.outputs = [.rsp 0x2000_0000] :=
  ⟨_, rfl, by decide⟩

/-- P2, step 4. -/
theorem test_setCallback : ∃ t, exec (.setCallback ⟨0, 2⟩ 0xCAFE0001) bench = .next t ∧ bankGet t.portsel 2 = 0 ∧
    t.irqen = #v[false, false, true, false, false, false, false] ∧ t.irqprio = #v[0, 0, 0x40, 0, 0, 0, 0] ∧
    t.bind = ⟨true, 0, 2, 0xCAFE0001⟩ :=
  ⟨_, rfl, by decide⟩

/-- V-O1, the command. -/
theorem test_observe : ∃ t, exec (.observe ⟨0, 7⟩ true 5) clocked = .next t ∧ t.opin = ⟨0, 7⟩ ∧ t.otarget = true ∧
    t.omax = 5 ∧ t.ocnt = 0 ∧ t.oactive = true ∧ t.outputs = [.rsp 0] :=
  ⟨_, rfl, by decide⟩

/-- V-O4. -/
theorem test_observe_zero : ∃ t, exec (.observe ⟨0, 7⟩ false 0) { watching with oactive := false } = .next t ∧ t.oactive = false ∧
    t.omax = 5 ∧ t.outputs = [.rsp 0, .obsDone 0] :=
  ⟨_, rfl, by decide⟩

/-- P3, the command. -/
theorem test_read : ∃ t, exec (.read ⟨0, 7⟩) bench = .next t ∧ t.dpin = ⟨0, 7⟩ ∧ bankGet t.clken 0 = true ∧
    bankGet t.dir 0 = 0x0080 ∧ bankGet t.odr 0 = 0 ∧ t.dstate = .requestPulse ∧ t.imask = false :=
  ⟨_, rfl, by decide⟩

/-- 2.6: READ inside a callback is refused. -/
theorem test_read_handler : ∃ t, exec (.read ⟨0, 2⟩) serving = .next t ∧ t.dstate = .idle ∧ t.fault = 0x10 ∧
    t.outputs = [.rsp 0x4000_0000] :=
  ⟨_, rfl, by decide⟩

/-- P2, step 13. -/
theorem test_cbReturn : ∃ t, exec .cbReturn serving = .next t ∧ t.insvc = false ∧ t.outputs = [.rsp 0] :=
  ⟨_, rfl, by decide⟩

/-- V-R4: a stray return. -/
theorem test_cbReturn_stray : ∃ t, exec .cbReturn bench = .next t ∧ t.fault = 0x40 ∧ t.outputs = [.rsp 0x6000_0000] :=
  ⟨_, rfl, by decide⟩

/-! ## Steps that are no commands -/

/-- The word a host presents right after Reset is run by the very next step. -/
theorem test_withFetchWord : ∃ t, step (State.reset.withFetchWord 64 0x1132_0000_0000_0000) = .next t ∧
    bankGet t.dir 1 = 0x0008 ∧ t.inputs = [] ∧ t.outputs = [.rsp 0] :=
  ⟨_, rfl, by decide⟩

/-- V-X1, the second Tick: the falling edge is latched. -/
theorem test_tick_edge : ∃ t, step { button with inputs := [.tick [(⟨0, 2⟩, false)]] } = .next t ∧
    bankGet t.pend 2 = true ∧ bankGet t.prev 2 = false ∧ pinGet t.padin 0 2 = false :=
  ⟨_, rfl, by decide⟩

/-- V-X1, the Dispatch: it comes before the Tick that waits. -/
theorem test_dispatch : ∃ t,
    step { button with
      pend := bankSet button.pend 2 true, padin := pinSet button.padin 0 2 false, inputs := [.tick []] } = .next t ∧
      bankGet t.pend 2 = false ∧ t.insvc = true ∧ t.inputs = [.tick []] ∧ t.outputs = [.cbInvoke 0xCAFE0001 2] :=
  ⟨_, rfl, by decide⟩

/-- V-X4, after the return: the pin has bounced back, the Dispatch is dropped. -/
theorem test_dispatch_bounce : ∃ t, step { button with pend := bankSet button.pend 2 true } = .next t ∧
    bankGet t.pend 2 = false ∧ t.insvc = false ∧ t.outputs = [] :=
  ⟨_, rfl, by decide⟩

/-- V-O1, the Tick: 1 and never 0. -/
theorem test_observe_first_poll : ∃ t, step { watching with inputs := [.tick [(⟨0, 7⟩, true)]] } = .next t ∧
    t.oactive = false ∧ t.ocnt = 1 ∧ t.outputs = [.obsDone 1] :=
  ⟨_, rfl, by decide⟩

/-- V-O2 and V-O3, the fifth Tick: the match is tested before the bound. -/
theorem test_observe_last_poll :
    (microStep { watching with ocnt := 4, padin := pinSet bench.padin 0 7 true }).outputs = [.obsDone 5] ∧
      (microStep { watching with ocnt := 4 }).outputs = [.obsDone 0] := by decide

/-- P5 (a). -/
theorem test_not_responding :
    (microStep { checking with padin := pinSet bench.padin 0 7 true }).outputs = [.readDone 2] := by decide

/-- V-D3 and V-D4: 50 µs is a 0, 52 µs a 1. -/
theorem test_threshold :
    (microStep (measuring 24)).frame = #v[0, 0, 0, 0, 0] ∧ (microStep (measuring 25)).frame = #v[1, 0, 0, 0, 0] := by
  decide

/-- V-D7, V-D7b, V-D9. -/
theorem test_reading_word :
    frameWord #v[0x37, 0x00, 0x18, 0x05, 0x54] = 0x003D_4898_1460_00DC ∧
    frameWord #v[0x37, 0x00, 0x18, 0x05, 0x55] = 0x003D_4898_1460_00DF ∧
    frameWord #v[0xFF, 0xFF, 0xFF, 0xFF, 0xFC] = 0x02BD_6BD7_FFFF_FFFC := by decide

/-- V-R2: Reset clears FAULT, abandons a decode and leaves a callback, without an event. -/
theorem test_reset : ∃ t, step { serving with
      fault := 0x56, dstate := .requestPulse, inputs := [.reset 0] } = .next t ∧
      t.fault = 0 ∧ t.dstate = .idle ∧ t.insvc = false ∧ t.outputs = [] :=
  ⟨_, rfl, by decide⟩

/-! ## Witnesses: for every statement with hypotheses, states and operands that meet them, at the boundaries of each
clause -/

theorem bench_quiet : quiet bench := by unfold quiet; decide

theorem button_quiet : quiet button := by unfold quiet; decide

/-- A pending line that the masked window holds back. -/
theorem masked_quiet : quiet { awaiting with pend := bankAll true, irqen := button.irqen } := by unfold quiet; decide

theorem bench_free : acceptsBlocking bench := ⟨rfl, rfl, rfl⟩

theorem clocked_free : acceptsBlocking clocked := ⟨rfl, rfl, rfl⟩

theorem clocked_open : acceptsOrdinary clocked := .inr ⟨rfl, rfl⟩

/-- A callback may give ordinary commands while a decode stands still. -/
theorem handler_open : acceptsOrdinary { reading with insvc := true } := .inl rfl

theorem watching_inv : StateInv watching := by
  constructor <;> first | decide | (unfold isReleased; decide)

theorem reading_inv : StateInv reading := by
  constructor <;> first | decide | (unfold isReleased; decide)

theorem holding_inv : StateInv holding := by
  constructor <;> first | decide | (unfold isReleased; decide)

theorem checking_inv : StateInv checking := by
  constructor <;> first | decide | (unfold isReleased; decide)

theorem awaiting_inv : StateInv awaiting := by
  constructor <;> first | decide | (unfold isReleased; decide)

/-- The wire of `awaiting` driven, low or high, for one Tick. -/
def wire (b : Level) : List (Pin × Level) := [(⟨0, 7⟩, b)]

/-- The wire sampled high. -/
def wireHigh (s : State) : State := { s with padin := pinSet bench.padin 0 7 true }

/-- The shortest pulse. -/
def shortPulse : Pulse := ⟨[], [wire true], wire false⟩

/-- The longest pulse, after the longest gap. -/
def longPulse : Pulse := ⟨List.replicate 699 (wire false), List.replicate 700 (wire true), wire false⟩

/-- A state in which exactly line `i`, armed with `m`, is due, its pin sampled as `b`. -/
def due (i : Nibble) (m : TriggerMode) (b : Level) : State :=
  { bench with
    pend := bankSet bench.pend i true, trig := bankSet bench.trig i m, padin := pinSet bench.padin 0 i b
    irqen := #v[true, true, true, true, true, true, true], bind := ⟨true, 0, i, 1⟩ }

/-! ### Encoding and the next step -/

theorem witness_EncodeOfDecode : decode 0x4130_0000_0000_0000 = .ok (.toggle ⟨1, 3⟩) := by decide

theorem witness_DecodeAcceptsExactlyTheTable : ∃ r ∈ opcodeTable, ∃ r' ∈ opcodeTable,
    (0x5040_4000_0000_00A5 : CmdWord) &&& r.mask = r.pattern ∧ 0x5040_4000_0000_00A5 &&& r'.mask = r'.pattern :=
  ⟨rowOf (.setRange ⟨0, 0⟩ 0 0), by decide, rowOf (.setRange ⟨0, 0⟩ 0 0), by decide, by decide⟩

theorem witness_StepRunsTheDecodedCommand :
    ({ button with inputs := [.cmd 0x1132_0000_0000_0000] } : State).inputs = .cmd 0x1132_0000_0000_0000 :: [] ∧
    quiet { button with inputs := [.cmd 0x1132_0000_0000_0000] } ∧
    decode 0x1132_0000_0000_0000 = .ok (.setMode ⟨1, 3⟩ .output) :=
  ⟨rfl, button_quiet, by decide⟩

theorem witness_IllegalWordFaults :
    ({ bench with inputs := [.cmd 0x2002_0000_0000_0000] } : State).inputs = .cmd 0x2002_0000_0000_0000 :: [] ∧
    quiet { bench with inputs := [.cmd 0x2002_0000_0000_0000] } ∧
    ∀ row ∈ opcodeTable, row.admits 0x2002_0000_0000_0000 = false :=
  ⟨rfl, bench_quiet, by decide⟩

/-- The hypotheses of the Dispatch statement. -/
def dueHypotheses (s : State) (i : Nibble) : Prop :=
  bankGet s.pend i = true ∧ s.irqen[grp i] = true ∧ s.imask = false ∧ s.insvc = false ∧
    (∀ j : Nibble, j.toNat < i.toNat → bankGet s.pend j = true → s.irqen[grp j] = false) ∧
    (∀ rest, s.inputs ≠ .reset 0 :: rest) ∧ singlePort s

/-- Lines 0, 4 (the last with the re-read) and 5 (the first without), invoked and not. -/
theorem witness_DispatchServesTheLowestLine :
    (dueHypotheses (due 0 .rising true) 0 ∧ level (due 0 .rising true) 0 0 = true) ∧
    (dueHypotheses (due 4 .falling false) 4 ∧ level (due 4 .falling false) 0 4 = false) ∧
    (dueHypotheses (due 4 .falling true) 4 ∧ level (due 4 .falling true) 0 4 = true) ∧
    (dueHypotheses (due 4 .none true) 4 ∧ bankGet (due 4 .none true).trig 4 = .none) ∧ dueHypotheses (due 5 .none true) 5 := by
  refine ⟨⟨⟨?_, ?_, ?_, ?_, ?_, ?_, ?_⟩, ?_⟩, ⟨⟨?_, ?_, ?_, ?_, ?_, ?_, ?_⟩, ?_⟩, ⟨⟨?_, ?_, ?_, ?_, ?_, ?_, ?_⟩, ?_⟩,
    ⟨⟨?_, ?_, ?_, ?_, ?_, ?_, ?_⟩, ?_⟩, ?_, ?_, ?_, ?_, ?_, ?_, ?_⟩ <;>
    first | decide | exact fun _ h => by cases h | (unfold singlePort; decide)

theorem witness_DebounceLooksAtTheSourcePin :
    (singlePort (due 4 .rising true) ∧ bankGet (due 4 .rising true).trig 4 ≠ .none ∧
      dispatchable (due 4 .rising true) 4 = true ∧ level (due 4 .rising true) 0 4 = true) ∧
    (singlePort (due 0 .rising false) ∧ bankGet (due 0 .rising false).trig 0 ≠ .none ∧
      dispatchable (due 0 .rising false) 0 = true ∧ level (due 0 .rising false) 0 0 = false) := by
  unfold singlePort
  decide

theorem witness_MaskingDefersNeverDiscards :
    (∃ t, step { awaiting with pend := bankAll true, inputs := [.tick (wire true)] } = .next t) ∧ awaiting.imask = true ∧
    (∃ t, step { serving with pend := bankAll true, inputs := [.cmd 0xB000_0000_0000_0000] } = .next t) ∧
      serving.insvc = true :=
  ⟨⟨_, rfl⟩, rfl, ⟨_, rfl⟩, rfl⟩

theorem witness_PendingClearedOnlyByItsDispatch :
    (∃ t, step (due 15 .none true) = .next t ∧ bankGet (due 15 .none true).pend 15 = true ∧ bankGet t.pend 15 = false) ∧
    (∃ t, step { due 15 .none true with inputs := [.reset 0] } = .next t ∧ bankGet t.pend 15 = false) :=
  ⟨⟨_, rfl, by decide⟩, ⟨_, rfl, by decide⟩⟩

/-! ### Whole-machine rules -/

theorem witness_FaultBitsAreSticky : ∃ t, step { bench with fault := 0x42, inputs := [.cmd 0x1132_0000_0000_0000] } = .next t ∧
    nextAction { bench with fault := 0x42, inputs := [.cmd 0x1132_0000_0000_0000] } ≠ .reset ∧
    (0x42 : Byte).getLsbD 6 = true :=
  ⟨_, rfl, by decide⟩

theorem witness_EnablesStayOn : ∃ t, step { button with inputs := [.cmd 0x1020_0000_0000_0000] } = .next t ∧
    nextAction { button with inputs := [.cmd 0x1020_0000_0000_0000] } ≠ .reset ∧
    bankGet button.clken 0 = true ∧ button.irqen[2] = true ∧ button.bind.valid = true :=
  ⟨_, rfl, by decide⟩

theorem witness_NoCommandWritesTheHiddenState : ∃ t, exec (.toggle ⟨1, 3⟩) clocked = .next t := ⟨_, rfl⟩

/-- A command accepted in a callback, while a decode or an observation is running. -/
theorem witness_NoCommandMovesARunningSequencer :
    (reading.dstate ≠ .idle ∧ ∃ t, exec (.setMode ⟨0, 7⟩ .input) { reading with insvc := true } = .next t) ∧
    (watching.oactive = true ∧ ∃ t, exec .cbReturn { watching with insvc := true } = .next t) :=
  ⟨⟨by decide, _, rfl⟩, rfl, _, rfl⟩

theorem witness_MaskedWindowRefusesEveryCommand : StateInv awaiting ∧ awaiting.imask = true := ⟨awaiting_inv, rfl⟩

/-! ### Command faults -/

theorem witness_InvalidPinIsRefused :
    (Instr.setRange ⟨2, 15⟩ 2 0).pin? = some ⟨2, 15⟩ ∧ clocked.cfg.nports ≤ (⟨2, 15⟩ : Pin).port.toNat := by decide

theorem witness_RangeOverflowIsRefused :
    (⟨1, 15⟩ : Pin).port.toNat < bench.cfg.nports ∧ 16 < (⟨1, 15⟩ : Pin).index.toNat + (2 : BitVec 5).toNat := by decide

/-- Accepted in the foreground and, ordinary commands, in a callback; turned away in the blocked context and, OBSERVE and
READ, in a callback. -/
theorem witness_AcceptanceByContext :
    (Instr.read ⟨1, 15⟩ ≠ .cbReturn ∧ (Instr.read ⟨1, 15⟩).wellFormed 2 = true ∧ Instr.set ⟨1, 0⟩ true ≠ .cbReturn ∧
      (Instr.set ⟨1, 0⟩ true).wellFormed 2 = true) ∧
    (bench.cfg.nports = 2 ∧ bench.insvc = false ∧ bench.dstate = .idle ∧ bench.oactive = false) ∧
    (reading.cfg.nports = 2 ∧ reading.insvc = false ∧ reading.dstate ≠ .idle) ∧
    (watching.cfg.nports = 2 ∧ watching.insvc = false ∧ watching.oactive = true) ∧
    (serving.cfg.nports = 2 ∧ serving.insvc = true) := by decide

theorem witness_ClockOffIsRefused :
    acceptsOrdinary bench ∧ acceptsBlocking bench ∧ (⟨1, 0⟩ : Pin).port.toNat < bench.cfg.nports ∧
    bankGet bench.clken 1 = false ∧ (⟨1, 0⟩ : Pin).index.toNat + (16 : BitVec 5).toNat ≤ 16 ∧
    (∃ t, exec (.read ⟨1, 0⟩) bench = .next t) ∧ ∃ t, exec .cbReturn bench = .next t :=
  ⟨.inr ⟨rfl, rfl⟩, bench_free, by decide, by decide, by decide, ⟨_, rfl⟩, _, rfl⟩

theorem witness_StrayCallbackReturnIsRefused : bench.insvc = false ∧ reading.insvc = false := ⟨rfl, rfl⟩

/-! ### GPIO commands -/

/-- For SET_MODE, SET, GET, TOGGLE, the repeated commands, SET_TRIGGER and SET_CALLBACK: the last pin there is, in the
foreground and in a callback. -/
theorem witness_commandOnAPin :
    (⟨1, 15⟩ : Pin).port.toNat < clocked.cfg.nports ∧ acceptsOrdinary clocked ∧ bankGet clocked.clken 1 = true ∧
    (⟨0, 15⟩ : Pin).port.toNat < reading.cfg.nports ∧ acceptsOrdinary { reading with insvc := true } ∧
      bankGet reading.clken 0 = true :=
  ⟨by decide, clocked_open, by decide, by decide, handler_open, by decide⟩

/-- For SET_RANGE and GET_RANGE: a whole port, the last bit alone, and the empty range at the end. -/
theorem witness_rangeCommand : ∀ r ∈ [((0 : Nibble), (16 : BitVec 5)), (15, 1), (15, 0)],
    (⟨1, r.1⟩ : Pin).port.toNat < clocked.cfg.nports ∧ r.1.toNat + r.2.toNat ≤ 16 ∧ bankGet clocked.clken 1 = true :=
  fun r hr => ⟨(by decide : (1 : Nibble).toNat < clocked.cfg.nports), by
    simp only [List.mem_cons, List.not_mem_nil, or_false] at hr
    rcases hr with rfl | rfl | rfl <;> decide, by decide⟩

theorem witness_RangeRoundTrip :
    let s : State := { clocked with dir := bankAll 0xFFFF }
    acceptsOrdinary s ∧ (⟨1, 0⟩ : Pin).port.toNat < s.cfg.nports ∧ bankGet s.clken 1 = true ∧
      ∀ k, k < (16 : BitVec 5).toNat → (bankGet s.dir 1).getLsbD ((0 : Nibble).toNat + k) = true :=
  ⟨.inr ⟨rfl, rfl⟩, by decide, by decide, fun k hk => by
    have hk : k < 16 := hk
    interval_cases k <;> decide⟩

/-! ### Edges and Ticks -/

/-- All sixteen lines in and out of the group of index 4, 9 and 10. -/
theorem witness_SetCallbackResult : grp 4 = 4 ∧ grp 5 = 5 ∧ grp 9 = 5 ∧ grp 10 = 6 ∧ grp 15 = 6 ∧ grp 0 ≠ 5 := by decide

theorem witness_CallbackReturnResult : serving.insvc = true := rfl

/-- For every statement about a Tick that the schedule describes; the second state with an observation running, the third
in a callback. -/
theorem witness_aTick :
    quiet { button with inputs := [.tick [(⟨0, 2⟩, false)]] } ∧
    (quiet { watching with inputs := [.tick (wire true)] } ∧ watching.oactive = true ∧ watching.insvc = false) ∧
    (quiet { serving with inputs := [.tick []] } ∧ serving.insvc = true) :=
  ⟨button_quiet, ⟨bench_quiet, rfl, rfl⟩, by unfold quiet; decide, rfl⟩

/-- A driven pad, a pulled-up one and a pulled-down one. -/
theorem witness_PadSamplingOfATick : quiet { button with inputs := [.tick (wire true)] } ∧
    (wire true).lookup ⟨0, 7⟩ = some true ∧ (wire true).lookup ⟨0, 2⟩ = none ∧ pinGet button.pull 0 2 = .up ∧
    pinGet (pinSet button.pull 1 15 .down) 1 15 = .down ∧ (1 : Nibble).toNat < button.cfg.nports :=
  ⟨button_quiet, by decide⟩

/-- A falling edge on the armed line 2. -/
theorem witness_EdgeDetectorOfATick : quiet { button with inputs := [.tick [(⟨0, 2⟩, false)]] } ∧
    bankGet button.trig 2 = .falling ∧ bankGet button.prev 2 = true ∧ bankGet button.pend 2 = false :=
  ⟨button_quiet, by decide⟩

/-! ### The observer -/

theorem witness_ObserveStarts : (⟨1, 15⟩ : Pin).port.toNat < clocked.cfg.nports ∧ acceptsBlocking clocked ∧
    bankGet clocked.clken 1 = true ∧ (0xFFFF : Half) ≠ 0 :=
  ⟨by decide, clocked_free, by decide, by decide⟩

theorem witness_ObserveOfZeroTicksEndsAtOnce : (⟨1, 15⟩ : Pin).port.toNat < clocked.cfg.nports ∧
    acceptsBlocking clocked ∧ bankGet clocked.clken 1 = true :=
  ⟨by decide, clocked_free, by decide⟩

/-- A match and the bound at the last poll, and a poll before it. -/
theorem witness_StandAloneObserverMicroStep :
    watching.dstate = .idle ∧ watching.oactive = true ∧ level (wireHigh watching) 0 7 = watching.otarget ∧
    (let s : State := { watching with ocnt := 4 };
      level s 0 7 ≠ s.otarget ∧ s.omax.toNat ≤ (s.ocnt + 1).toNat) ∧
    (let s : State := { watching with ocnt := 3 };
      level s 0 7 ≠ s.otarget ∧ (s.ocnt + 1).toNat < s.omax.toNat) := by decide

theorem witness_ObservePinAtTargetReturnsOne :
    quiet { watching with inputs := [.tick (wire true)] } ∧ watching.dstate = .idle ∧ watching.oactive = true ∧
    watching.insvc = false ∧ watching.ocnt = 0 ∧ watching.opin.port.toNat < watching.cfg.nports ∧
    (bankGet watching.dir watching.opin.port).getLsbD watching.opin.index.toNat = false ∧
    (wire true).lookup watching.opin = some watching.otarget :=
  ⟨bench_quiet, by decide⟩

/-! ### The decoder -/

theorem witness_ReadStarts : (⟨1, 15⟩ : Pin).port.toNat < bench.cfg.nports ∧ acceptsBlocking bench :=
  ⟨by decide, bench_free⟩

theorem witness_LowHoldMicroStep : reading.dstate = .requestPulse ∧ reading.dphase = 0 ∧
    (let s : State := { reading with cnt := 9998 };
      (s.cnt + 1).toNat < s.cfg.resetLow.toNat) ∧
    (let s : State := { reading with cnt := 9999 };
      s.cfg.resetLow.toNat ≤ (s.cnt + 1).toNat) := by decide

theorem witness_HighHoldMicroStep : holding.dstate = .requestPulse ∧ holding.dphase = 1 ∧
    (let s : State := { holding with cnt := 18 };
      (s.cnt + 1).toNat < s.cfg.startHigh.toNat) ∧
    (let s : State := { holding with cnt := 19 };
      s.cfg.startHigh.toNat ≤ (s.cnt + 1).toNat) := by decide

theorem witness_ReleaseCheckMicroStep : checking.dstate = .requestPulse ∧ checking.dphase = 2 ∧
    level (wireHigh checking) checking.dpin.port checking.dpin.index = true ∧
    level checking checking.dpin.port checking.dpin.index = false := by decide

theorem witness_DecoderWaitGoesOnOrTimesOut :
    (∀ s ∈ [{ acking with ocnt := 698 }, { awaiting with ocnt := 698 }, wireHigh (measuring 698)],
      decoderObserves s = true ∧ positionOk s = true ∧ level s s.opin.port s.opin.index ≠ s.otarget ∧
        (s.ocnt + 1).toNat < s.omax.toNat) ∧
    ∀ s ∈ [{ acking with ocnt := 699 }, { awaiting with ocnt := 699 }, wireHigh (measuring 699)],
      decoderObserves s = true ∧ positionOk s = true ∧ level s s.opin.port s.opin.index ≠ s.otarget ∧
        s.omax.toNat ≤ (s.ocnt + 1).toNat := by decide

theorem witness_DecoderWaitSucceeds :
    (∀ s ∈ [wireHigh acking, { acking with dstate := .awaitAck2, otarget := false }, wireHigh awaiting],
      level s s.opin.port s.opin.index = s.otarget ∧ s.ocnt + 1 ≠ 0) ∧
    acking.dstate = .awaitAck1 ∧ awaiting.dstate = .bitCapture ∧ awaiting.dphase = 0 := by decide

/-- The first bit of a byte, and the last bit but one of the frame. -/
theorem witness_MeasuredBitIsShiftedIn : ∀ k ∈ [(8 : BitVec 6), 38],
    let s : State := { measuring 25 with bitidx := k }
    s.dstate = .bitCapture ∧ s.dphase = 1 ∧ level s s.opin.port s.opin.index = s.otarget ∧ s.ocnt + 1 ≠ 0 ∧
      s.bitidx.toNat < 39 := by decide

theorem witness_FortiethBitDeliversTheReading :
    let s : State := { measuring 25 with bitidx := 39 }
    s.dstate = .bitCapture ∧ s.dphase = 1 ∧ level s s.opin.port s.opin.index = s.otarget ∧ s.ocnt + 1 ≠ 0 ∧
      s.bitidx = 39 := by decide

theorem shortPulse_ok : pulseOk Config.default ⟨0, 7⟩ shortPulse := by unfold pulseOk; decide

theorem longPulse_ok : pulseOk Config.default ⟨0, 7⟩ longPulse := by
  refine ⟨?_, ?_, by decide, ?_, ?_, ?_⟩
  · intro d h
    obtain rfl := List.eq_of_mem_replicate h
    decide
  · intro d h
    obtain rfl := List.eq_of_mem_replicate h
    decide
  · exact (List.length_replicate (n := 699)).trans_lt (by decide)
  · exact (by decide : 1 ≤ 700).trans_eq (List.length_replicate (n := 700)).symm
  · exact (List.length_replicate (n := 700)).trans_le (by decide)

theorem awaiting_awaits : awaitsPulse awaiting := ⟨rfl, rfl, rfl, rfl, rfl⟩

theorem awaiting_inv_inputs (l : List Input) : StateInv { awaiting with inputs := l } := by
  obtain ⟨⟩ := awaiting_inv
  constructor <;> assumption

theorem witness_OnePulseIsOneBit : StateInv { awaiting with inputs := pulseInputs longPulse ++ [] } ∧ awaitsPulse awaiting ∧
    awaiting.bitidx.toNat < 39 ∧ pulseOk awaiting.cfg awaiting.dpin longPulse :=
  ⟨awaiting_inv_inputs _, awaiting_awaits, by decide, longPulse_ok⟩

theorem witness_FortyPulsesDecodeBitExact :
    let us := List.replicate 20 shortPulse ++ List.replicate 20 longPulse
    StateInv { awaiting with inputs := us.flatMap pulseInputs ++ [] } ∧ awaitsPulse awaiting ∧ awaiting.bitidx = 0 ∧
      us.length = 40 ∧ ∀ u ∈ us, pulseOk awaiting.cfg awaiting.dpin u := by
  refine ⟨awaiting_inv_inputs _, awaiting_awaits, rfl, rfl, ?_⟩
  intro u h
  rcases List.mem_append.mp h with h | h
  · exact List.eq_of_mem_replicate h ▸ shortPulse_ok
  · exact List.eq_of_mem_replicate h ▸ longPulse_ok

/-! ### Reset and invariants -/

theorem witness_ResetStepValues :
    ({ serving with inputs := [.reset 0] } : State).inputs = .reset 0 :: [] ∧
    (({ button with inputs := [.reset 3] } : State).inputs = .reset 3 :: [] ∧
      quiet { button with inputs := [.reset 3] }) :=
  ⟨rfl, rfl, button_quiet⟩

/-- R42 excludes a high hold longer than the low hold (log 11); equal lengths are the boundary. -/
theorem test_paramsOk_holds : paramsOk 2 2 700 700 10000 10001 = false ∧ paramsOk 2 2 700 700 10000 10000 = true := by
  decide

/-- A run of two steps from Reset, with the port's clock turned on and a decode started. -/
theorem witness_ReachableStatesMeetR45 : ∃ t,
    core.run 2 { State.reset with
      cfg := Config.default, inputs := [.cmd 0x1132_0000_0000_0000, .cmd 0xA070_0000_0000_0000] } = .next t :=
  ⟨_, rfl⟩

theorem witness_StepKeepsInvariant :
    StateInv { awaiting with inputs := [.tick (wire true)] } ∧
      ∃ t, step { awaiting with inputs := [.tick (wire true)] } = .next t ∧ t.dphase = phaseMeasure :=
  ⟨awaiting_inv_inputs _, _, rfl, by decide⟩

theorem witness_DecodeLeavesTheWireReleased : StateInv checking ∧
    ∃ t, step { checking with inputs := [.tick (wire true)] } = .next t ∧ checking.dstate ≠ .idle ∧ t.dstate = .idle ∧
      nextAction { checking with inputs := [.tick (wire true)] } ≠ .reset :=
  ⟨checking_inv, _, rfl, by decide⟩

theorem witness_ReadStartsWithTheBound : (⟨1, 15⟩ : Pin).port.toNat < bench.cfg.nports ∧ acceptsBlocking bench ∧
    ∃ t, exec (.read ⟨1, 15⟩) bench = .next t :=
  ⟨by decide, bench_free, _, rfl⟩

theorem witness_MicroStepUsesUpTheBudget :
    (StateInv reading ∧ reading.dstate ≠ .idle) ∧ (StateInv watching ∧ watching.oactive = true) :=
  ⟨⟨reading_inv, by decide⟩, watching_inv, rfl⟩

/-- An observation with no line enabled, and the last wait of a masked decode. -/
theorem witness_SequencerEndsWithinItsBudget :
    (StateInv watching ∧ watching.oactive = true ∧ watching.insvc = false ∧ (∀ g : Fin 7, watching.irqen[g] = false) ∧
      (List.replicate 5 (wire false)).length = budget watching) ∧
    (StateInv awaiting ∧ awaiting.dstate ≠ .idle ∧ awaiting.insvc = false ∧ awaiting.imask = true ∧
      (List.replicate (budget awaiting) (wire false)).length = budget awaiting) :=
  ⟨⟨watching_inv, rfl, rfl, by decide, by decide⟩, awaiting_inv, by decide, rfl, rfl, List.length_replicate⟩

end Sys2Proof.Tests
end

/-! The statements of 00_scope.md: which step comes next, that every step answers, what a Dispatch does, what a Tick
is and what it leaves alone. First the rules about the choice of the next step and about each kind of step, then the
obligations. -/

namespace Sys2Proof.Machine

/-! ### Which step comes next (R11, R13, R240) -/

/-- `quiet` is the model's "no line is due", in fields. -/
theorem quiet_iff_dueLine_eq_none {s : State} : quiet s ↔ dueLine s = none := by
  simp only [dueLine_eq_none, quiet, dispatchable]
  refine forall_congr' fun i => ?_
  cases bankGet s.pend i <;> cases s.irqen[grp i] <;> cases s.imask <;> cases s.insvc <;> simp

/-- No Reset is asserted now exactly if none stands first in the schedule with no Dispatch to wait for. -/
theorem resetNow_eq_false {inputs : List Input} : resetNow inputs = false ↔ ∀ rest, inputs ≠ .reset 0 :: rest := by
  unfold resetNow
  split <;> simp_all

/-- The due line is served next unless a Reset is asserted now (R13, R240). -/
theorem nextAction_dispatch {s : State} {line : Nibble} (hr : resetNow s.inputs = false) (hd : dueLine s = some line) :
    nextAction s = .dispatch line := by
  simp [nextAction, hr, hd]

/-- A presented word comes next if no line is due (R11, R13). -/
theorem nextAction_command {s : State} {w : CmdWord} {rest : List Input} (hi : s.inputs = .cmd w :: rest)
    (hd : dueLine s = none) : nextAction s = .command w := by
  simp [nextAction, hi, resetNow, hd, askedFor]

/-- A Dispatch step is the service of the due line (R215). -/
theorem step_dispatch {s : State} {line : Nibble} (hr : resetNow s.inputs = false) (hd : dueLine s = some line) :
    step s = .next (dispatchLine line (letDispatch s)) := by
  rw [step, nextAction_dispatch hr hd]

/-- A Cmd step runs the presented word, used up, and nothing else (R11, R95). -/
theorem step_command {s : State} {w : CmdWord} {rest : List Input} (hi : s.inputs = .cmd w :: rest)
    (hd : dueLine s = none) : step s = runWord w { s with inputs := rest } := by
  rw [step, nextAction_command hi hd]
  simp [takeInput, hi]

/-- A word that decodes runs as its command (R95). -/
theorem runWord_of_decode {w : CmdWord} {i : Instr} (h : decode w = .ok i) (s : State) : runWord w s = exec i s := by
  simp [runWord, h]

/-! ### Every step answers (R16) -/

/-- Every command is a list of checks before one effect (60_exceptions.md R208). -/
theorem exec_eq_guarded (i : Instr) (s : State) : ∃ causes effect, exec i s = guarded causes s effect := by
  cases i <;> exact ⟨_, _, rfl⟩

/-- A guarded command ends in a next state, be it refused or done (60_exceptions.md R201). -/
theorem guarded_answers (causes : List (FaultCode × Bool)) (s effect : State) :
    ∃ t, guarded causes s effect = .next t := by
  cases h : firstCause causes with
  | none => exact ⟨_, guarded_effect h s effect⟩
  | some c => exact ⟨_, guarded_fault h s effect⟩

theorem exec_answers (i : Instr) (s : State) : ∃ t, exec i s = .next t := by
  obtain ⟨causes, effect, h⟩ := exec_eq_guarded i s
  rw [h]
  exact guarded_answers causes s effect

/-- A Cmd step answers, whether the word is a command or not (R95, 60_exceptions.md R202). -/
theorem runWord_answers (w : CmdWord) (s : State) : ∃ t, runWord w s = .next t := by
  unfold runWord
  split
  · exact exec_answers _ s
  · exact ⟨_, rfl⟩

/-! ### Dispatch (60_exceptions.md R215, R216) -/

/-- The re-read level is the one the armed edge leads to; a line with no armed edge has none (R216). -/
def edgeTarget (trig : TriggerMode) (live : Level) : Prop :=
  (trig = .rising ∧ live = true) ∨ (trig = .falling ∧ live = false)

/-- Which Dispatches invoke the callback: all of the lines 5 to 15, and of the lines 0 to 4 those whose re-read level is
as the armed edge leaves it (R216). -/
theorem invokes_eq_true {i : Nibble} {trig : TriggerMode} {live : Level} :
    invokes i trig live = true ↔ 5 ≤ i.toNat ∨ edgeTarget trig live := by
  unfold invokes edgeTarget
  split
  · have : ¬ 5 ≤ i.toNat := by omega
    cases trig <;> simp [this]
  · have : 5 ≤ i.toNat := by omega
    simp [this]

/-- The pads and latches that a Dispatch re-reads are those of the state before it. -/
@[simp] theorem level_letDispatch (s : State) (p i : Nibble) : level (letDispatch s) p i = level s p i :=
  level_congr rfl rfl rfl p i

/-- A pending, enabled and unmasked line with no lower such line is due (R13, R212). -/
theorem dueLine_of_lowest {s : State} {i : Nibble} (hp : bankGet s.pend i = true) (he : s.irqen[grp i] = true)
    (hm : s.imask = false) (hv : s.insvc = false)
    (hlow : ∀ j : Nibble, j.toNat < i.toNat → bankGet s.pend j = true → s.irqen[grp j] = false) :
    dueLine s = some i := by
  refine dueLine_eq_some.mpr ⟨by simp [dispatchable, hp, he, hm, hv], fun j hj => ?_⟩
  cases hpj : bankGet s.pend j with
  | false => simp [dispatchable, hpj]
  | true => simp [dispatchable, hlow j hj hpj]

/-! ### A Tick that does not move the sequencer (R12, 42_observer.md R158) -/

/-- In a callback or with the sequencer idle a Tick is pad sampling and the edge detector only. -/
theorem tick_stalled {s : State} (ext : Nibble → Nibble → Ext) (h : s.insvc = true ∨ active s = false) :
    tick ext s = detectEdges (samplePads ext s) := by
  have hstall : (active (samplePads ext s) && !(samplePads ext s).insvc) = false := by
    have ha : active (samplePads ext s) = active s := rfl
    rcases h with h | h <;> simp [ha, h]
  rw [tick, advanceSequencer, hstall]
  rfl

/-! ### The obligations -/

/-- Settles O5. -/
theorem stepRunsTheDecodedCommand : Obligations.StepRunsTheDecodedCommand := by
  intro s w rest i hi hq hw
  rw [step_command hi (quiet_iff_dueLine_eq_none.mp hq), runWord_of_decode hw]

/-- Settles O35. -/
theorem tickPerformsOneMicroStep : Obligations.TickPerformsOneMicroStep := by
  intro s driven rest hi hq ha hv
  rw [step_tick hi (quiet_iff_dueLine_eq_none.mp hq)]
  exact congrArg _ (tick_active _ ha hv)

/-- Settles O7: of the five kinds of step only a Cmd could fail to answer, and every command is guarded. -/
theorem everyStepAnswersNext : Obligations.EveryStepAnswersNext := by
  intro s
  cases h : nextAction s with
  | command word => simpa [step, h] using runWord_answers word (takeInput s)
  | reset | dispatch line | tick driven | freeTick => simp [step, h]

/-- Settles O36. -/
theorem tickFrame : Obligations.TickFrame := by
  intro s driven rest hi hq
  refine ⟨_, step_tick hi (quiet_iff_dueLine_eq_none.mp hq), by simp, fun hstall => ?_⟩
  rw [tick_stalled]
  · rfl
  · exact hstall.imp id active_eq_false.mpr

/-- Settles O8: the line is the due one, and a Dispatch either invokes the callback or only clears the flag. -/
theorem dispatchServesTheLowestLine : Obligations.DispatchServesTheLowestLine := by
  intro s i hp he hm hv hlow hr expected
  have hinv : invokes i (bankGet s.trig i) (level s s.bind.port i) = true ↔ 5 ≤ i.toNat ∨ expected := invokes_eq_true
  have hpend (j : Nibble) : bankGet (bankSet s.pend i false) j = if j = i then false else bankGet s.pend j := by
    simp only [bankGet_bankSet, eq_comm]
  refine ⟨_, step_dispatch (resetNow_eq_false.mpr hr) (dueLine_of_lowest hp he hm hv hlow), ?_⟩
  have hcases := dispatchLine_cases i (letDispatch s)
  simp only [letDispatch_trig, letDispatch_bind, level_letDispatch] at hcases
  rcases hcases with ⟨hyes, h⟩ | ⟨hno, h⟩ <;> rw [h]
  · refine ⟨rfl, hpend, fun _ => ⟨rfl, rfl⟩, ?_⟩
    rintro ⟨hi, -, hne⟩
    rcases hinv.mp hyes with h5 | hx
    · omega
    · exact absurd hx hne
  · refine ⟨rfl, hpend, fun hx => ?_, fun _ => ⟨hv, rfl⟩⟩
    have : ¬ (5 ≤ i.toNat ∨ expected) := by simp [← hinv, hno]
    exact absurd (hx.imp id And.right) this

end Sys2Proof.Machine

/-! The statements of 10_state.md: which steps write a register, and the invariants of R45. First what a command and a
micro-step can do, then what each operation does to the invariant, then the obligations. -/

namespace Sys2Proof.Machine

/-! ### What a command can do (60_exceptions.md R208, R226) -/

/-- The column of the acceptance table in which a command stands (60_exceptions.md R226). -/
def classOf : Instr → CmdClass
  | .setMode _ _ => .ordinary
  | .set _ _ => .ordinary
  | .get _ => .ordinary
  | .toggle _ => .ordinary
  | .setRange _ _ _ => .ordinary
  | .getRange _ _ => .ordinary
  | .setTrigger _ _ => .ordinary
  | .setCallback _ _ => .ordinary
  | .observe _ _ _ => .blocking
  | .read _ => .blocking
  | .cbReturn => .callbackReturn

/-- The state that a command leads to when no check refuses it. -/
def effectOf (i : Instr) (s : State) : State :=
  match i with
  | .setMode pin mode => respond 0 (doSetMode pin mode s)
  | .set pin b => respond 0 (doSet pin b s)
  | .get pin => respond (bitAt (level s pin.port pin.index) 0) s
  | .toggle pin => respond 0 { s with odr := bankSet s.odr pin.port (flipBit (bankGet s.odr pin.port) pin.index) }
  | .setRange pin count value =>
    respond 0 { s with odr := bankSet s.odr pin.port (putRange (bankGet s.odr pin.port) pin.index count value) }
  | .getRange pin count => respond (takeRange (levelWord s pin.port) pin.index count) s
  | .setTrigger pin mode => respond 0 { s with trig := bankSet s.trig pin.index mode }
  | .setCallback pin token => respond 0 (bindCallback pin token s)
  | .observe pin target maxTicks =>
    if maxTicks = 0 then emit (.obsDone 0) (respond 0 s) else respond 0 (startObserve pin target maxTicks s)
  | .read pin => respond 0 (startRead pin s)
  | .cbReturn => respond 0 (returnFromCallback s)

/-- All that a command can do: take a fault, or, accepted in the present context and naming an existing port, have its
effect. -/
theorem exec_cases {i : Instr} {s t : State} (h : exec i s = .next t) :
    (∃ c, t = takeFault c s) ∨
    (turnedAway (classOf i) s = false ∧ (∀ pin, i.pin? = some pin → pinValid s pin = true) ∧ t = effectOf i s) := by
  cases i
  all_goals
    rcases guarded_cases h with ⟨c, -, rfl⟩ | ⟨hn, rfl⟩
    · exact .inl ⟨c, rfl⟩
    · simp only [firstCause_eq_none, List.forall_mem_cons, Bool.not_eq_false'] at hn
      exact .inr ⟨by simp [classOf, hn], by simp [Instr.pin?, hn], rfl⟩

/-- A command whose column the context does not accept takes a fault, be it Busy or one that is tested before. -/
theorem exec_of_turnedAway {i : Instr} {s : State} (h : turnedAway (classOf i) s = true) :
    ∃ c, exec i s = .next (takeFault c s) := by
  obtain ⟨t, ht⟩ := exec_answers i s
  rcases exec_cases ht with ⟨c, rfl⟩ | ⟨hf, -⟩
  · exact ⟨c, ht⟩
  · simp [h] at hf

/-- A running sequencer outside callbacks has every command turned away (60_exceptions.md R226). -/
theorem turnedAway_blocked {s : State} (hv : s.insvc = false) (ha : active s = true) (cls : CmdClass) :
    turnedAway cls s = true := by
  cases cls <;> simp [turnedAway_ordinary, turnedAway_blocking, turnedAway_callbackReturn, hv, ha]

/-- The response to a fault is its code above 28 zero bits (30_encoding.md R96, 60_exceptions.md R201). -/
theorem rspWord_faultNumber (c : FaultCode) : rspWord (faultNumber c) 0 = faultNumber c ++ (0 : BitVec 28) := by
  cases c <;> decide

/-! ### Registers that few steps write (R24, R26, R28, R30, R31, R33, R34, R36) -/

/-- No effect of a command writes the registers that no command writes, nor FAULT. -/
theorem effectOf_keeps (i : Instr) (s : State) :
    (effectOf i s).padin = s.padin ∧ (effectOf i s).prev = s.prev ∧ (effectOf i s).pend = s.pend ∧
      (effectOf i s).imask = s.imask ∧ (effectOf i s).cfg = s.cfg ∧ (effectOf i s).inputs = s.inputs ∧
      (effectOf i s).draws = s.draws ∧ (effectOf i s).fault = s.fault := by
  cases i with
  | observe pin target maxTicks => simp only [effectOf]; split <;> simp
  | _ => simp [effectOf]

/-- Port clocks, request lines and the binding that are on in `s` are on in `t`. -/
def enablesKept (s t : State) : Prop :=
  (∀ p, bankGet s.clken p = true → bankGet t.clken p = true) ∧
    (∀ g : Fin 7, s.irqen[g] = true → t.irqen[g] = true) ∧ (s.bind.valid = true → t.bind.valid = true)

theorem enablesKept_of_eq {s t : State} (hc : t.clken = s.clken) (hi : t.irqen = s.irqen) (hb : t.bind = s.bind) :
    enablesKept s t := by
  simp [enablesKept, hc, hi, hb]

theorem bankGet_set_true {v : Bank Bool} {p : Nibble} (q : Nibble) (h : bankGet v p = true) :
    bankGet (bankSet v q true) p = true := by
  simp [bankGet_bankSet, h]

theorem effectOf_enablesKept (i : Instr) (s : State) : enablesKept s (effectOf i s) := by
  cases i with
  | setMode pin mode => exact ⟨fun _ => bankGet_set_true _, fun _ => id, id⟩
  | read pin => exact ⟨fun _ => bankGet_set_true _, fun _ => id, id⟩
  | setCallback pin token =>
    refine ⟨fun _ => id, fun g hg => ?_, fun _ => rfl⟩
    simp only [effectOf, respond_irqen, bindCallback_irqen, Fin.getElem_fin, Vector.getElem_set] at hg ⊢
    split <;> simp_all
  | observe pin target maxTicks => simp only [effectOf]; split <;> exact enablesKept_of_eq rfl rfl rfl
  | _ => exact enablesKept_of_eq rfl rfl rfl

/-! ### What a micro-step can do (42_observer.md R155, 43_decoder.md R167 to R183) -/

/-- A count below a bound of its own width does not wrap. -/
theorem toNat_succ {w : Nat} {n bound : BitVec w} (h : n.toNat < bound.toNat) : (n + 1).toNat = n.toNat + 1 := by
  have hfits : n.toNat + 1 < 2 ^ w := (Nat.succ_le_of_lt h).trans_lt bound.isLt
  have hone : (1 : BitVec w).toNat = 1 := Nat.mod_eq_of_lt (show 1 < 2 ^ w by omega)
  rw [BitVec.toNat_add, hone]
  exact Nat.mod_eq_of_lt hfits

/-- What holds of a poll that goes on and of every end holds after the observer micro-step (42_observer.md R155). -/
theorem observerStep_induction {P : State → Prop} {ended : Half → State → State} {s : State}
    (goesOn : s.ocnt + 1 < s.omax → P (polled s)) (ends : ∀ r, P (ended r (polled s))) :
    P (observerStep ended s) := by
  rcases observerStep_cases ended s with ⟨_, h⟩ | ⟨_, _, h⟩ | ⟨_, hb, h⟩ <;> rw [h]
  · exact ends _
  · exact ends _
  · exact goesOn hb

/-- The decoder's position, moved, with the bits captured so far. -/
def atPosition (d : DState) (ph : BitVec 2) (k : BitVec 6) (f : Vector Byte 5) (s : State) : State :=
  { s with dstate := d, dphase := ph, bitidx := k, frame := f }

/-- The states that a micro-step can lead to, each with what is known of the position it leaves. -/
inductive MicroStepResult (s : State) : State → Prop
  /-- The sequencer is idle, or stands where no run comes (log 10). -/
  | nothing : MicroStepResult s s
  /-- The observer polls and goes on. -/
  | polling (running : s.oactive = true ∨ decoderObserves s = true) (left : s.ocnt + 1 < s.omax) :
      MicroStepResult s (polled s)
  /-- A stand-alone observation ends. -/
  | observed (r : Half) (idle : s.dstate = .idle) (running : s.oactive = true) :
      MicroStepResult s (endObserve r (polled s))
  /-- A tick of the low hold. -/
  | low (pulse : s.dstate = .requestPulse) (phase : s.dphase = phaseLow) : MicroStepResult s (lowHold s)
  /-- A tick of the high hold. -/
  | high (pulse : s.dstate = .requestPulse) (phase : s.dphase = phaseHigh) : MicroStepResult s (highHold s)
  /-- The line stays high after the release. -/
  | noSensor (pulse : s.dstate = .requestPulse) : MicroStepResult s (finish .notResponding s)
  /-- A wait of the decoder runs to its bound. -/
  | timedOut (waits : decoderObserves s = true) : MicroStepResult s (finish .timeout (polled s))
  /-- The decoder goes on to its next wait, of the same or of the next bit. -/
  | nextWait (target : Level) (bound : Half) (d : DState) (ph : BitVec 2) (k : BitVec 6) (f : Vector Byte 5)
      (released : wireReleased s = true) (bounded : bound = s.cfg.ackTimeout ∨ bound = s.cfg.bitTimeout)
      (waits : decoderObserves (atPosition d ph k f s) = true)
      (position : positionOk s = true → positionOk (atPosition d ph k f s) = true)
      (bit : k = s.bitidx ∨ k.toNat ≤ 39) : MicroStepResult s (arm target bound (atPosition d ph k f s))
  /-- The fortieth bit is captured. -/
  | delivered (f : Vector Byte 5) (waits : decoderObserves s = true) :
      MicroStepResult s (deliver { polled s with frame := f, imask := false })

/-- Every wait of the decoder comes after the switch to input (43_decoder.md R170). -/
theorem wireReleased_of_decoderObserves {s : State} (h : decoderObserves s = true) : wireReleased s = true := by
  simp [wireReleased, h]

/-- The release check ends the decode or begins the first wait (43_decoder.md R171). -/
theorem checkRelease_result {s : State} (hd : s.dstate = .requestPulse) (hp : s.dphase = phaseCheck) :
    MicroStepResult s (checkRelease s) := by
  unfold checkRelease
  split
  · exact .noSensor hd
  · exact .nextWait true _ .awaitAck1 0 s.bitidx s.frame (by simp [wireReleased, hd, hp]) (.inl rfl) rfl
      (fun _ => rfl) (.inl rfl)

theorem ack1Ended_result {s : State} (hd : s.dstate = .awaitAck1) (r : Half) :
    MicroStepResult s (ack1Ended r (polled s)) := by
  have hw : decoderObserves s = true := by simp [decoderObserves, hd]
  unfold ack1Ended
  split
  · exact .timedOut hw
  · exact .nextWait false _ .awaitAck2 s.dphase s.bitidx s.frame (wireReleased_of_decoderObserves hw) (.inl rfl) rfl
      (by simp [positionOk, atPosition, hd]) (.inl rfl)

theorem ack2Ended_result {s : State} (hd : s.dstate = .awaitAck2) (r : Half) :
    MicroStepResult s (ack2Ended r (polled s)) := by
  have hw : decoderObserves s = true := by simp [decoderObserves, hd]
  unfold ack2Ended
  split
  · exact .timedOut hw
  · exact .nextWait true _ .bitCapture phaseWaitHigh 0 s.frame (wireReleased_of_decoderObserves hw) (.inr rfl) rfl
      (fun _ => rfl) (.inr (by decide))

theorem waitHighEnded_result {s : State} (hd : s.dstate = .bitCapture) (r : Half) :
    MicroStepResult s (waitHighEnded r (polled s)) := by
  have hw : decoderObserves s = true := by simp [decoderObserves, hd]
  unfold waitHighEnded
  split
  · exact .timedOut hw
  · exact .nextWait false _ s.dstate phaseMeasure s.bitidx s.frame (wireReleased_of_decoderObserves hw) (.inr rfl) hw
      (by simp [positionOk, atPosition, hd]) (.inl rfl)

theorem measureEnded_result {s : State} (hd : s.dstate = .bitCapture) (r : Half) :
    MicroStepResult s (measureEnded r (polled s)) := by
  have hw : decoderObserves s = true := by simp [decoderObserves, hd]
  unfold measureEnded
  split
  · exact .timedOut hw
  · unfold advanceBit
    split
    · rename_i hk
      have hk : s.bitidx.toNat < (39 : BitVec 6).toNat := hk
      exact .nextWait true _ s.dstate phaseWaitHigh (s.bitidx + 1) _ (wireReleased_of_decoderObserves hw) (.inr rfl) hw
        (by simp [positionOk, atPosition, hd]) (.inr ((toNat_succ hk).trans_le hk))
    · exact .delivered _ hw

theorem microStep_result (s : State) : MicroStepResult s (microStep s) := by
  unfold microStep
  split
  case h_1 hd =>
    split
    · rename_i ho
      exact observerStep_induction (.polling (.inl ho)) fun r => .observed r hd ho
    · exact .nothing
  case h_2 hd =>
    split
    · exact .low hd ‹_›
    · split
      · exact .high hd ‹_›
      · split
        · exact checkRelease_result hd ‹_›
        · exact .nothing
  case h_3 hd => exact observerStep_induction (.polling (.inr (by simp [decoderObserves, hd]))) (ack1Ended_result hd)
  case h_4 hd => exact observerStep_induction (.polling (.inr (by simp [decoderObserves, hd]))) (ack2Ended_result hd)
  case h_5 hd =>
    have hw : decoderObserves s = true := by simp [decoderObserves, hd]
    split
    · exact observerStep_induction (.polling (.inr hw)) (waitHighEnded_result hd)
    · split
      · exact observerStep_induction (.polling (.inr hw)) (measureEnded_result hd)
      · exact .nothing
  case h_6 => exact .nothing
  case h_7 => exact .nothing

/-- Of the sequencer's rules only the switch to input writes CLKEN, and it turns a clock on (43_decoder.md R170). -/
theorem microStep_clken (s : State) :
    (microStep s).clken = s.clken ∨ (microStep s).clken = bankSet s.clken s.dpin.port true := by
  have result := microStep_result s
  generalize microStep s = t at result ⊢
  cases result with
  | low => unfold lowHold; dsimp only; split <;> exact .inl rfl
  | high =>
    unfold highHold
    dsimp only
    split
    · exact .inr rfl
    · exact .inl rfl
  | _ => exact .inl rfl

theorem microStep_enablesKept (s : State) : enablesKept s (microStep s) := by
  refine ⟨fun p hp => ?_, fun g => by simp, by simp⟩
  rcases microStep_clken s with h | h <;> rw [h]
  · exact hp
  · exact bankGet_set_true _ hp

theorem tick_enablesKept (ext : Nibble → Nibble → Ext) (s : State) : enablesKept s (tick ext s) := by
  unfold tick advanceSequencer
  split
  · exact microStep_enablesKept (samplePads ext s)
  · exact enablesKept_of_eq rfl rfl rfl

/-- A pending flag outlives a Tick: the edge detector only sets flags (41_edge.md R139). -/
theorem tick_pend_of_pend (ext : Nibble → Nibble → Ext) {s : State} {i : Nibble} (h : bankGet s.pend i = true) :
    bankGet (tick ext s).pend i = true := by
  have hkept : (advanceSequencer (samplePads ext s)).pend = s.pend :=
    advanceSequencer_keeps (field := (·.pend)) microStep_pend (samplePads ext s)
  simp [tick, detectEdges_pend, hkept, h]

/-- Setting one FAULT bit clears none (60_exceptions.md R201). -/
theorem raiseFlag_of_set (c : FaultCode) {flags : Byte} {b : Nat} (h : flags.getLsbD b = true) :
    (raiseFlag c flags).getLsbD b = true := by
  simp [raiseFlag, h]

/-- A Dispatch writes PEND, INSVC and the output only (60_exceptions.md R215). -/
theorem dispatchLine_only (i : Nibble) (s : State) : dispatchLine i s = { s with
    pend := bankSet s.pend i false, insvc := (dispatchLine i s).insvc, outputs := (dispatchLine i s).outputs } := by
  rcases dispatchLine_cases i s with ⟨-, h⟩ | ⟨-, h⟩ <;> rw [h]

/-! ### The obligations about single registers -/

/-- Settles O14: a refused command writes FAULT and answers, and no effect writes any of these. -/
theorem noCommandWritesTheHiddenState : Obligations.NoCommandWritesTheHiddenState := by
  intro i s t h
  rcases exec_cases h with ⟨c, rfl⟩ | ⟨-, -, rfl⟩
  · simp
  · obtain ⟨hpadin, hprev, hpend, himask, hcfg, hinputs, hdraws, -⟩ := effectOf_keeps i s
    exact ⟨hpadin, hprev, hpend, himask, hcfg, hinputs, hdraws⟩

/-- Settles O11: a command and a Tick keep every pending flag, and a Dispatch clears that of its line. -/
theorem pendingClearedOnlyByItsDispatch : Obligations.PendingClearedOnlyByItsDispatch := by
  intro s t i hstep hset hclear
  have survives (h : bankGet t.pend i = true) : nextAction s = .dispatch i ∨ nextAction s = .reset := by
    simp [hclear] at h
  rcases step_cases hstep with ⟨hn, -⟩ | ⟨line, hn, rfl⟩ | ⟨w, c, -, -, hx⟩ | ⟨w, why, -, -, rfl⟩ | ⟨d, -, rfl⟩ | ⟨-, rfl⟩
  · exact .inr hn
  · by_cases hl : line = i
    · exact .inl (hl ▸ hn)
    · refine survives ?_
      rw [dispatchLine_only]
      simpa [bankGet_bankSet_other _ _ hl] using hset
  · obtain ⟨-, -, hpend, -⟩ := noCommandWritesTheHiddenState c _ t hx
    exact survives (by simpa [hpend] using hset)
  · exact survives hset
  · exact survives (tick_pend_of_pend _ hset)
  · exact survives (tick_pend_of_pend _ hset)

/-- Settles O12: a fault adds a bit, and nothing else but Reset writes FAULT. -/
theorem faultBitsAreSticky : Obligations.FaultBitsAreSticky := by
  intro s t b hstep hr hset
  rcases step_cases hstep with ⟨hn, -⟩ | ⟨line, -, rfl⟩ | ⟨w, i, -, -, hx⟩ | ⟨w, why, -, -, rfl⟩ | ⟨d, -, rfl⟩ | ⟨-, rfl⟩
  · exact absurd hn hr
  · rw [dispatchLine_only]
    exact hset
  · rcases exec_cases hx with ⟨c, rfl⟩ | ⟨-, -, rfl⟩
    · exact raiseFlag_of_set c hset
    · obtain ⟨-, -, -, -, -, -, -, hfault⟩ := effectOf_keeps i (takeInput s)
      simpa [hfault] using hset
  · exact raiseFlag_of_set _ hset
  · simpa using hset
  · simpa using hset

/-- Settles O13: commands and the decoder only turn enables on. -/
theorem enablesStayOn : Obligations.EnablesStayOn := by
  intro s t hstep hr
  rcases step_cases hstep with ⟨hn, -⟩ | ⟨line, -, rfl⟩ | ⟨w, i, -, -, hx⟩ | ⟨w, why, -, -, rfl⟩ | ⟨d, -, rfl⟩ | ⟨-, rfl⟩
  · exact absurd hn hr
  · rw [dispatchLine_only]
    exact enablesKept_of_eq rfl rfl rfl
  · rcases exec_cases hx with ⟨c, rfl⟩ | ⟨-, -, rfl⟩
    · exact enablesKept_of_eq rfl rfl rfl
    · exact effectOf_enablesKept i (takeInput s)
  · exact enablesKept_of_eq rfl rfl rfl
  · exact tick_enablesKept _ (takeInput s)
  · exact tick_enablesKept _ s

/-! ### The positions of the sequencer (10_state.md R41) -/

/-- An idle decoder is not in the masked window. -/
theorem dstate_ne_idle_of_inWindow {s : State} (h : inWindow s = true) : s.dstate ≠ .idle := by
  intro hd
  simp [inWindow, hd] at h

/-- The wire is released in the masked window only. -/
theorem inWindow_of_wireReleased {s : State} (h : wireReleased s = true) : inWindow s = true := by
  unfold wireReleased decoderObserves at h
  unfold inWindow
  cases hd : s.dstate <;> simp_all

theorem inWindow_of_decoderObserves {s : State} (h : decoderObserves s = true) : inWindow s = true :=
  inWindow_of_wireReleased (wireReleased_of_decoderObserves h)

/-- The high hold is in the masked window. -/
theorem inWindow_of_highHold {s : State} (hd : s.dstate = .requestPulse) (hp : s.dphase = phaseHigh) :
    inWindow s = true := by
  simp [inWindow, hd, hp]

/-- RequestPulse is no wait of the decoder. -/
theorem dstate_ne_requestPulse_of_decoderObserves {s : State} (h : decoderObserves s = true) :
    s.dstate ≠ .requestPulse := by
  intro hd
  simp [decoderObserves, hd] at h

/-- Settles O16: the masked window is open only while the decoder runs and no callback is in service. -/
theorem maskedWindowRefusesEveryCommand : Obligations.MaskedWindowRefusesEveryCommand := by
  intro s i inv hm
  have hw : inWindow s = true := inv.masked_window ▸ hm
  have ha : active s = true := by simp [active, dstate_ne_idle_of_inWindow hw]
  obtain ⟨c, hc⟩ := exec_of_turnedAway (turnedAway_blocked (inv.masked_alone hm) ha (classOf i))
  refine ⟨c, ?_⟩
  rw [hc, ← rspWord_faultNumber]
  rfl

end Sys2Proof.Machine

/-! The invariant of R45 along every step: what each operation of the model does to it, and the obligations. -/

namespace Sys2Proof.Machine

/-! ### Operations on what the invariant does not speak of, and the FAULT bits -/

/-- The invariant does not look at the schedule, the output, the pads, the edge detector's registers, the priorities, the
level an observation waits for, and the frame. -/
theorem StateInv.unwatched {s : State} (inv : StateInv s) {inputs : List Input} {draws : Nat} {outputs : List Output}
    {padin : Bank (Bank Level)} {trig : Bank TriggerMode} {pend : Bank Bool} {prev : Bank Level}
    {irqprio : Vector Byte 7} {otarget : Level} {frame : Vector Byte 5} :
    StateInv { s with
      inputs := inputs, draws := draws, outputs := outputs, padin := padin, trig := trig, pend := pend, prev := prev,
      irqprio := irqprio, otarget := otarget, frame := frame } :=
  { inv with }

/-- The bits 0 and 7 of FAULT belong to no cause (R36). -/
theorem raiseFlag_reserved (c : FaultCode) (flags : Byte) :
    (raiseFlag c flags).getLsbD 0 = flags.getLsbD 0 ∧ (raiseFlag c flags).getLsbD 7 = flags.getLsbD 7 := by
  cases c <;> simp [raiseFlag, faultNumber]

theorem StateInv.after_takeFault {s : State} (inv : StateInv s) (c : FaultCode) : StateInv (takeFault c s) :=
  have ⟨h0, h7⟩ := raiseFlag_reserved c s.fault
  { inv with fault_reserved := inv.fault_reserved.imp h0.trans h7.trans }

/-! ### Commands, accepted outside the masked window only -/

/-- Every accepted command finds the window closed (R45 f, 60_exceptions.md R226). -/
theorem StateInv.unmasked_of_accepted {s : State} (inv : StateInv s) {cls : CmdClass}
    (ha : turnedAway cls s = false) : s.imask = false := by
  by_contra hm
  have hm : s.imask = true := by simpa using hm
  have hw : inWindow s = true := inv.masked_window ▸ hm
  have hrun : active s = true := by simp [active, dstate_ne_idle_of_inWindow hw]
  simp [turnedAway_blocked (inv.masked_alone hm) hrun] at ha

theorem StateInv.not_inWindow {s : State} (inv : StateInv s) (hm : s.imask = false) : ¬ inWindow s = true := by
  simp [← inv.masked_window, hm]

/-- Outside the window no latch is claimed to hold a value. -/
theorem StateInv.after_setOdr {s : State} (inv : StateInv s) (hm : s.imask = false) (odr : Bank Half) :
    StateInv { s with odr := odr } :=
  { inv with
    high_driven := fun hd hp => absurd (inWindow_of_highHold hd hp) (inv.not_inWindow hm)
    released := fun hr => absurd (inWindow_of_wireReleased hr) (inv.not_inWindow hm) }

/-- The bit that a read-modify-write of one pin writes (40_gpio.md R112). -/
theorem getLsbD_putBit_same (w : Half) (i : Nibble) (b : Bool) : (putBit w i b).getLsbD i.toNat = b := by
  rw [getLsbD_putBit w i b _ i.isLt, if_pos rfl]

/-- Setting a mode drives at most the one pin, and turns its clock on (40_gpio.md R110). -/
theorem doSetMode_driven_clocked {s : State} (pin : Pin) (mode : PinMode)
    (h : ∀ p i : Nibble, (bankGet s.dir p).getLsbD i.toNat = true → bankGet s.clken p = true) (p i : Nibble)
    (hd : (bankGet (doSetMode pin mode s).dir p).getLsbD i.toNat = true) :
    bankGet (doSetMode pin mode s).clken p = true := by
  rw [doSetMode_dir, bankGet_bankSet] at hd
  rw [doSetMode_clken, bankGet_bankSet]
  split
  · rfl
  · rename_i hp
    exact h p i (by simpa [hp] using hd)

theorem StateInv.after_doSetMode {s : State} (inv : StateInv s) (hm : s.imask = false) (pin : Pin) (mode : PinMode) :
    StateInv (doSetMode pin mode s) :=
  { inv with
    driven_clocked := doSetMode_driven_clocked pin mode inv.driven_clocked
    released := fun hr => absurd (inWindow_of_wireReleased hr) (inv.not_inWindow hm) }

theorem StateInv.after_bindCallback {s : State} (inv : StateInv s) {pin : Pin} (hp : pinValid s pin = true)
    (token : BitVec 32) : StateInv (bindCallback pin token s) :=
  have hport : pin.port.toNat < s.cfg.nports := by simpa [pinValid] using hp
  { inv with
    enabled_bound := fun _ _ => rfl
    portsel_exists := fun i => by
      rw [bindCallback_portsel, bankGet_bankSet]
      split
      · exact hport
      · exact inv.portsel_exists i
    bind_exists := fun _ => hport }

theorem StateInv.after_returnFromCallback {s : State} (inv : StateInv s) : StateInv (returnFromCallback s) :=
  { inv with masked_alone := fun _ => rfl }

theorem StateInv.after_startObserve {s : State} (inv : StateInv s) (idle : s.dstate = .idle) {pin : Pin}
    (hp : pinValid s pin = true) {maxTicks : Half} (hmax : maxTicks ≠ 0) (target : Level) :
    StateInv (startObserve pin target maxTicks s) :=
  { inv with
    opin_exists := by simpa [pinValid] using hp
    one_user := fun _ => idle
    count_bound := Nat.zero_le _
    count_left := fun _ => BitVec.toNat_pos_of_ne_zero hmax
    own_pin := fun h => by simp [decoderObserves, idle] at h }

/-- A READ from the foreground begins the low hold, outside the window and with all its ticks left. -/
theorem StateInv.after_startRead {s : State} (inv : StateInv s) (idle : s.dstate = .idle) (free : s.oactive = false)
    {pin : Pin} (hp : pinValid s pin = true) : StateInv (startRead pin s) :=
  have hlow : 0 < s.cfg.resetLow.toNat := by
    obtain ⟨-, -, -, -, -, hlow, -⟩ := config_constraints s.cfg
    exact BitVec.toNat_pos_of_ne_zero hlow
  { inv with
    driven_clocked := doSetMode_driven_clocked pin .output inv.driven_clocked
    dpin_exists := by simpa [pinValid] using hp
    one_user := fun h => by simp [free] at h
    masked_window := by simp [inv.masked_window, inWindow, idle, phaseLow, phaseHigh, phaseCheck]
    position := rfl
    bit_bound := Nat.zero_le _
    count_left := fun h => by simp [free, decoderObserves] at h
    hold_bound := Nat.zero_le _
    low_left := fun _ _ => hlow
    high_left := fun _ h => by simp [phaseLow, phaseHigh] at h
    high_driven := fun _ h => by simp [phaseLow, phaseHigh] at h
    released := fun h => by simp [wireReleased, decoderObserves, phaseLow, phaseCheck] at h
    own_pin := fun h => by simp [decoderObserves] at h }

/-- Every accepted command keeps the invariant. -/
theorem StateInv.after_effectOf {s : State} (inv : StateInv s) {i : Instr} (ha : turnedAway (classOf i) s = false)
    (hp : ∀ pin, i.pin? = some pin → pinValid s pin = true) : StateInv (effectOf i s) := by
  have hm := inv.unmasked_of_accepted ha
  cases i with
  | setMode pin mode => exact (inv.after_doSetMode hm pin mode).unwatched
  | set pin b => exact (inv.after_setOdr hm _).unwatched
  | toggle pin => exact (inv.after_setOdr hm _).unwatched
  | setRange pin count value => exact (inv.after_setOdr hm _).unwatched
  | get pin => exact inv.unwatched
  | getRange pin count => exact inv.unwatched
  | setTrigger pin mode => exact inv.unwatched
  | setCallback pin token => exact (inv.after_bindCallback (hp pin rfl) token).unwatched
  | observe pin target maxTicks =>
    have hfree : s.insvc = false ∧ active s = false := by simpa [classOf, turnedAway_blocking] using ha
    simp only [effectOf]
    split
    · exact inv.unwatched
    · exact (inv.after_startObserve (active_eq_false.mp hfree.2).1 (hp pin rfl) ‹_› target).unwatched
  | read pin =>
    have hfree : s.insvc = false ∧ active s = false := by simpa [classOf, turnedAway_blocking] using ha
    obtain ⟨idle, free⟩ := active_eq_false.mp hfree.2
    exact (inv.after_startRead idle free (hp pin rfl)).unwatched
  | cbReturn => exact inv.after_returnFromCallback.unwatched

theorem StateInv.after_exec {s t : State} (inv : StateInv s) {i : Instr} (h : exec i s = .next t) : StateInv t := by
  rcases exec_cases h with ⟨c, rfl⟩ | ⟨ha, hp, rfl⟩
  · exact inv.after_takeFault c
  · exact inv.after_effectOf ha hp

/-! ### Dispatch and Reset -/

/-- A Dispatch comes next only while no decode holds the window (60_exceptions.md R218). -/
theorem imask_of_dispatch {s : State} {line : Nibble} (h : nextAction s = .dispatch line) : s.imask = false := by
  by_contra hm
  have := dueLine_masked (.inl (by simpa using hm))
  simp [dispatch_due h] at this

theorem StateInv.after_dispatchLine {s : State} (inv : StateInv s) (hm : s.imask = false) (i : Nibble) :
    StateInv (dispatchLine i s) := by
  have hinv : StateInv { s with insvc := (dispatchLine i s).insvc } :=
    { inv with masked_alone := fun h => by simp [hm] at h }
  rw [dispatchLine_only]
  exact hinv.unwatched

theorem reset_irqen (g : Fin 7) : State.reset.irqen[g] = false := by revert g; decide

/-- Whatever the parameters and the unspecified pads are, the state after Reset meets the invariant (R240, R241). -/
theorem stateInv_reset (cfg : Config) (inputs : List Input) (draws : Nat) (outputs : List Output)
    (padin : Bank (Bank Level)) (prev : Bank Level) :
    StateInv { State.reset with
      cfg := cfg, inputs := inputs, draws := draws, outputs := outputs, padin := padin, prev := prev } := by
  have hports : 0 < cfg.nports := (config_constraints cfg).1
  constructor
  case driven_clocked => simp [State.reset]
  case enabled_bound => exact fun g hg => absurd (hg.symm.trans (reset_irqen g)) (by decide)
  case portsel_exists => simpa [State.reset] using hports
  case bind_exists => simp [State.reset]
  case dpin_exists => exact hports
  case opin_exists => exact hports
  case one_user => simp [State.reset]
  case masked_window => rfl
  case masked_alone => simp [State.reset]
  case fault_reserved => simp [State.reset]
  case position => rfl
  case bit_bound => exact Nat.zero_le _
  case count_bound => exact Nat.zero_le _
  case count_left => simp [State.reset, decoderObserves]
  case hold_bound => exact Nat.zero_le _
  case low_left => simp [State.reset]
  case high_left => simp [State.reset]
  case high_driven => simp [State.reset]
  case released => simp [State.reset, wireReleased, decoderObserves]
  case own_pin => simp [State.reset, decoderObserves]

/-! ### The micro-step -/

/-- A poll that does not use up the count (42_observer.md R155). -/
theorem StateInv.after_polled {s : State} (inv : StateInv s) (bound : s.ocnt.toNat + 1 ≤ s.omax.toNat)
    (left : s.oactive = true ∨ decoderObserves s = true → s.ocnt.toNat + 1 < s.omax.toNat) : StateInv (polled s) :=
  have hcount : (s.ocnt + 1).toNat = s.ocnt.toNat + 1 := toNat_succ bound
  { inv with
    count_bound := hcount.trans_le bound
    count_left := fun h => hcount.trans_lt (left h) }

/-- The end of a decode closes the window and lets go of the wire (43_decoder.md R182, R183). -/
theorem StateInv.after_closing {s : State} (inv : StateInv s) : StateInv (toIdle { s with imask := false }) :=
  { inv with
    one_user := fun _ => rfl
    masked_window := rfl
    masked_alone := fun h => by simp at h
    position := rfl
    count_left := fun h => inv.count_left (h.imp id fun h => by simp [decoderObserves] at h)
    low_left := fun h => by simp at h
    high_left := fun h => by simp at h
    high_driven := fun h => by simp at h
    released := fun h => by simp [wireReleased, decoderObserves] at h
    own_pin := fun h => by simp [decoderObserves] at h }

/-- The decoder's waits exclude a stand-alone observation (R45 e). -/
theorem StateInv.oactive_of_running {s : State} (inv : StateInv s) (h : s.dstate ≠ .idle) : s.oactive = false := by
  by_contra ho
  exact h (inv.one_user (by simpa using ho))

/-- A decode that a poll ends: by then nobody observes, so the count may stand at the bound. -/
theorem StateInv.after_closing_polled {s : State} (inv : StateInv s) (waits : decoderObserves s = true) :
    StateInv (polled (toIdle { s with imask := false })) :=
  inv.after_closing.after_polled (inv.count_left (.inr waits)) fun h => by
    have := inv.oactive_of_running (dstate_ne_idle_of_inWindow (inWindow_of_decoderObserves waits))
    simp [this, decoderObserves] at h

/-- The end of a stand-alone observation (42_observer.md R156). -/
theorem StateInv.after_endObserve {s : State} (inv : StateInv s) (idle : s.dstate = .idle)
    (running : s.oactive = true) (r : Half) : StateInv (endObserve r (polled s)) :=
  have hended : StateInv { s with oactive := false } :=
    { inv with
      one_user := fun h => by simp at h
      count_left := fun h => by simp [decoderObserves, idle] at h }
  (hended.after_polled (inv.count_left (.inl running)) fun h => by simp [decoderObserves, idle] at h).unwatched

/-- The next wait of the decoder: the wire stays released, and the observer starts afresh on it (43_decoder.md R172). -/
theorem StateInv.after_nextWait {s : State} (inv : StateInv s) {target : Level} {bound : Half} {d : DState}
    {ph : BitVec 2} {k : BitVec 6} {f : Vector Byte 5} (released : wireReleased s = true)
    (bounded : bound = s.cfg.ackTimeout ∨ bound = s.cfg.bitTimeout)
    (waits : decoderObserves (atPosition d ph k f s) = true)
    (position : positionOk s = true → positionOk (atPosition d ph k f s) = true)
    (bit : k = s.bitidx ∨ k.toNat ≤ 39) : StateInv (arm target bound (atPosition d ph k f s)) :=
  have hpos : 0 < bound.toNat := by
    obtain ⟨-, -, -, hack, hbit, -⟩ := config_constraints s.cfg
    have hne : bound ≠ 0 := by rcases bounded with rfl | rfl <;> assumption
    exact BitVec.toNat_pos_of_ne_zero hne
  have hw : inWindow s = true := inWindow_of_wireReleased released
  have hpulse : d ≠ .requestPulse := dstate_ne_requestPulse_of_decoderObserves waits
  { inv with
    opin_exists := inv.dpin_exists
    one_user := fun h => by simp [atPosition, inv.oactive_of_running (dstate_ne_idle_of_inWindow hw)] at h
    masked_window := inv.masked_window.trans (hw.trans (inWindow_of_decoderObserves waits).symm)
    position := position inv.position
    bit_bound := bit.elim (· ▸ inv.bit_bound) id
    count_bound := Nat.zero_le _
    count_left := fun _ => hpos
    low_left := fun h => absurd h hpulse
    high_left := fun h => absurd h hpulse
    high_driven := fun h => absurd h hpulse
    released := fun _ => inv.released released
    own_pin := fun _ => rfl }

/-- A tick of the low hold, and its end, which opens the window with the wire driven high (43_decoder.md R168, R169). -/
theorem StateInv.after_lowHold {s : State} (inv : StateInv s) (pulse : s.dstate = .requestPulse)
    (phase : s.dphase = phaseLow) (alone : s.insvc = false) : StateInv (lowHold s) := by
  have hhigh : 0 < s.cfg.startHigh.toNat := by
    obtain ⟨-, -, -, -, -, -, hne, -⟩ := config_constraints s.cfg
    exact BitVec.toNat_pos_of_ne_zero hne
  unfold lowHold
  dsimp only
  split
  · exact { inv with
      masked_window := by simp [inWindow, pulse]
      masked_alone := fun _ => alone
      position := by simp [positionOk, pulse, phaseHigh]
      hold_bound := Nat.zero_le _
      low_left := fun _ h => by simp [phaseLow, phaseHigh] at h
      high_left := fun _ _ => hhigh
      high_driven := fun _ _ => by simp [getLsbD_putBit_same, -BitVec.getLsbD_eq_getElem]
      released := fun h => by simp [wireReleased, decoderObserves, pulse, phaseHigh, phaseCheck] at h }
  · rename_i hgo
    have hlt : (s.cnt + 1).toNat < s.cfg.resetLow.toNat := BitVec.not_le.mp hgo
    exact { inv with
      hold_bound := hlt.le
      low_left := fun _ _ => hlt
      high_left := fun _ h => by simp [phase, phaseLow, phaseHigh] at h }

/-- A tick of the high hold, and its end, which releases the wire (43_decoder.md R170). That CNT stays within
RESET_LOW_TICKS is the constraint of log 11. -/
theorem StateInv.after_highHold {s : State} (inv : StateInv s) (pulse : s.dstate = .requestPulse)
    (phase : s.dphase = phaseHigh) : StateInv (highHold s) := by
  have hleft := inv.high_left pulse phase
  have hhold : s.cfg.startHigh.toNat ≤ s.cfg.resetLow.toNat := by
    obtain ⟨-, -, -, -, -, -, -, -, -, hhold⟩ := config_constraints s.cfg
    exact hhold
  have hbound : (s.cnt + 1).toNat ≤ s.cfg.resetLow.toNat := (toNat_succ hleft).trans_le (hleft.trans_le hhold)
  have hm : s.imask = true := inv.masked_window.trans (inWindow_of_highHold pulse phase)
  unfold highHold
  dsimp only
  split
  · exact { inv with
      driven_clocked := doSetMode_driven_clocked s.dpin .input inv.driven_clocked
      masked_window := by simp [hm, inWindow, pulse]
      position := by simp [positionOk, pulse, phaseCheck]
      hold_bound := hbound
      low_left := fun _ h => by simp [phaseLow, phaseCheck] at h
      high_left := fun _ h => by simp [phaseHigh, phaseCheck] at h
      high_driven := fun _ h => by simp [phaseHigh, phaseCheck] at h
      released := fun _ => ⟨by simp [getLsbD_putBit_same, modeDir], by simp [pinGet_pinSet, modePull], by simp,
        inv.high_driven pulse phase⟩ }
  · rename_i hgo
    have hlt : (s.cnt + 1).toNat < s.cfg.startHigh.toNat := BitVec.not_le.mp hgo
    exact { inv with
      hold_bound := hbound
      low_left := fun _ h => by simp [phase, phaseLow, phaseHigh] at h
      high_left := fun _ _ => hlt }

theorem StateInv.after_microStep {s : State} (inv : StateInv s) (alone : s.insvc = false) : StateInv (microStep s) := by
  have result := microStep_result s
  generalize microStep s = t at result ⊢
  cases result with
  | nothing => exact inv
  | polling running left =>
    have hleft := inv.count_left running
    exact inv.after_polled hleft fun _ => (toNat_succ hleft).symm.trans_lt left
  | observed r idle running => exact inv.after_endObserve idle running r
  | low pulse phase => exact inv.after_lowHold pulse phase alone
  | high pulse phase => exact inv.after_highHold pulse phase
  | noSensor pulse => exact inv.after_closing.unwatched
  | timedOut waits => exact (inv.after_closing_polled waits).unwatched
  | nextWait target bound d ph k f released bounded waits position bit =>
    exact inv.after_nextWait released bounded waits position bit
  | delivered f waits => exact (inv.after_closing_polled waits).unwatched

/-- A Tick: the sequencer advances only with no callback in service (00_scope.md R12). -/
theorem StateInv.after_tick {s : State} (inv : StateInv s) (ext : Nibble → Nibble → Ext) : StateInv (tick ext s) := by
  have hsampled : StateInv (samplePads ext s) := inv.unwatched
  unfold tick advanceSequencer
  split
  · rename_i hrun
    have alone : (samplePads ext s).insvc = false := by simpa using (Bool.and_eq_true_iff.mp hrun).2
    exact (hsampled.after_microStep alone).unwatched
  · exact hsampled.unwatched

/-! ### The obligations -/

/-- Settles O53: the defaults are one choice of the parameters. -/
theorem invariantHoldsAtReset : Obligations.InvariantHoldsAtReset :=
  stateInv_reset _ _ _ _ _ _

/-- Settles O54: each kind of step keeps the invariant. -/
theorem stepKeepsInvariant : Obligations.StepKeepsInvariant := by
  intro s t inv hstep
  have htaken : StateInv (takeInput s) := inv.unwatched
  rcases step_cases hstep with ⟨-, rfl⟩ | ⟨line, hn, rfl⟩ | ⟨w, i, -, -, hx⟩ | ⟨w, why, -, -, rfl⟩ | ⟨d, -, rfl⟩ | ⟨-, rfl⟩
  · exact stateInv_reset _ _ _ _ _ _
  · have hdispatch : StateInv (letDispatch s) := inv.unwatched
    exact hdispatch.after_dispatchLine (imask_of_dispatch (s := s) hn) line
  · exact htaken.after_exec hx
  · exact htaken.after_takeFault _
  · exact htaken.after_tick _
  · exact inv.after_tick _

/-- What holds at the start and is kept by every step holds after every run. -/
theorem run_induction {P : State → Prop} (keeps : ∀ s t, P s → step s = .next t → P t) {n : Nat} {s t : State}
    (hs : P s) (h : core.run n s = .next t) : P t := by
  induction n generalizing s with
  | zero =>
    injection h with h
    exact h ▸ hs
  | succ n ih =>
    obtain ⟨u, hu⟩ := everyStepAnswersNext s
    rw [run_step hu] at h
    exact ih (keeps s u hs hu) h

/-- No step changes the parameters (log 5). -/
theorem step_cfg {s t : State} (h : step s = .next t) : t.cfg = s.cfg := by
  rcases step_cases h with ⟨-, rfl⟩ | ⟨line, -, rfl⟩ | ⟨w, i, -, -, hx⟩ | ⟨w, why, -, -, rfl⟩ | ⟨d, -, rfl⟩ | ⟨-, rfl⟩
  · rfl
  · rw [dispatchLine_only]
    rfl
  · obtain ⟨-, -, -, -, hcfg, -⟩ := noCommandWritesTheHiddenState i _ t hx
    simpa using hcfg
  · rfl
  · simp
  · simp

/-- Every state that a run from Reset reaches meets the invariant, with the parameters it started with. -/
theorem reachable_inv {cfg : Config} {inputs : List Input} {n : Nat} {t : State}
    (h : core.run n { State.reset with cfg := cfg, inputs := inputs } = .next t) : StateInv t ∧ t.cfg = cfg := by
  refine run_induction (P := fun u => StateInv u ∧ u.cfg = cfg) ?_ ⟨stateInv_reset _ _ _ _ _ _, rfl⟩ h
  rintro u v ⟨inv, hcfg⟩ hstep
  exact ⟨stepKeepsInvariant u v inv hstep, (step_cfg hstep).trans hcfg⟩

/-- The codes that never occur, which no value of the enumerations has (R22, R27, R41, log 19). -/
theorem pullCode_ne (p : Pull) : pullCode p ≠ 0b11 := by cases p <;> decide

theorem triggerCode_ne (m : TriggerMode) : triggerCode m ≠ 3 := by cases m <;> decide

theorem dstateCode_ne (d : DState) : dstateCode d ≠ 7 := by cases d <;> decide

/-- The positions of the masked window, as R45 (f) lists them. -/
theorem window_positions {s : State} (h : inWindow s = true) :
    (s.dstate = .requestPulse ∧ (s.dphase = 1 ∨ s.dphase = 2)) ∨ s.dstate = .awaitAck1 ∨ s.dstate = .awaitAck2 ∨
      s.dstate = .bitCapture := by
  unfold inWindow at h
  split at h
  case h_1 hd => exact .inl ⟨hd, of_decide_eq_true h⟩
  case h_2 hd => exact .inr (.inl hd)
  case h_3 hd => exact .inr (.inr (.inl hd))
  case h_4 hd => exact .inr (.inr (.inr hd))
  all_goals simp at h

/-- Settles O59: the invariant holds after every run, and each clause of R45 is one of its clauses. -/
theorem reachableStatesMeetR45 : Obligations.ReachableStatesMeetR45 := by
  intro cfg inputs n t h
  obtain ⟨inv, rfl⟩ := reachable_inv h
  refine ⟨rfl, inv.driven_clocked, ⟨fun _ _ => pullCode_ne _, fun _ => triggerCode_ne _, dstateCode_ne _⟩,
    inv.enabled_bound, ⟨inv.portsel_exists, inv.bind_exists, fun _ => ⟨inv.dpin_exists, inv.opin_exists⟩⟩, ?_,
    fun hm => ⟨window_positions (inv.masked_window ▸ hm), inv.masked_alone hm⟩, inv.fault_reserved,
    inv.bit_bound, inv.count_bound, inv.hold_bound⟩
  rintro ⟨hd, ho⟩
  exact hd (inv.one_user ho)

end Sys2Proof.Machine

/-! The statements of 20_memory.md about GPIO registers and pads: writing a register twice, and pad sampling. First the
rules about registers that already hold what is written, the two commands accepted, and sampled pads; then the
obligations. -/

namespace Sys2Proof.Machine

/-! ### Registers that already hold what is written (R72) -/

theorem bankSet_of_bankGet {α : Type} {v : Bank α} {k : Nibble} {a : α} (h : bankGet v k = a) : bankSet v k a = v := by
  subst h
  exact bankSet_bankGet v k

theorem pinSet_of_pinGet {α : Type} {v : Bank (Bank α)} {p i : Nibble} {a : α} (h : pinGet v p i = a) :
    pinSet v p i a = v :=
  bankSet_of_bankGet (bankSet_of_bankGet h).symm

/-- Of two writes to one place of a bank the second stays. -/
@[simp] theorem bankSet_bankSet {α : Type} (v : Bank α) (k : Nibble) (a b : α) :
    bankSet (bankSet v k a) k b = bankSet v k b := by
  simp [bankSet]

theorem putBit_of_getLsbD {w : Half} {i : Nibble} {b : Bool} (h : w.getLsbD i.toNat = b) : putBit w i b = w := by
  refine BitVec.eq_of_getLsbD_eq fun j hj => ?_
  rw [getLsbD_putBit w i b j hj]
  split
  · rename_i hij
    exact hij ▸ h.symm
  · rfl

@[simp] theorem flipBit_flipBit (w : Half) (i : Nibble) : flipBit (flipBit w i) i = w := by
  simp [flipBit]

/-- Setting a pin to the mode it has, with the port's clock on, changes nothing (40_gpio.md R110). -/
theorem doSetMode_of_set {s : State} {pin : Pin} {mode : PinMode} (clock : bankGet s.clken pin.port = true)
    (dir : (bankGet s.dir pin.port).getLsbD pin.index.toNat = modeDir mode)
    (pull : pinGet s.pull pin.port pin.index = modePull mode) : doSetMode pin mode s = s := by
  simp only [doSetMode, bankSet_of_bankGet clock, putBit_of_getLsbD dir, bankSet_bankGet, pinSet_of_pinGet pull]

/-! ### The commands accepted (60_exceptions.md R208, R226) -/

theorem turnedAway_of_acceptsOrdinary {s : State} (h : acceptsOrdinary s) : turnedAway .ordinary s = false := by
  rw [turnedAway_ordinary]
  rcases h with h | h
  · simp [h]
  · simp [active_eq_false.mpr h]

theorem exec_setMode_of_accepted {s : State} {pin : Pin} (mode : PinMode) (hp : pin.port.toNat < s.cfg.nports)
    (ha : acceptsOrdinary s) : exec (.setMode pin mode) s = .next (respond 0 (doSetMode pin mode s)) :=
  guarded_effect (by simp [pinValid, hp, turnedAway_of_acceptsOrdinary ha]) s _

theorem exec_toggle_of_accepted {s : State} {pin : Pin} (hp : pin.port.toNat < s.cfg.nports) (ha : acceptsOrdinary s)
    (hc : bankGet s.clken pin.port = true) : exec (.toggle pin) s =
      .next (respond 0 { s with odr := bankSet s.odr pin.port (flipBit (bankGet s.odr pin.port) pin.index) }) :=
  guarded_effect (by simp [pinValid, clockOn, hp, hc, turnedAway_of_acceptsOrdinary ha]) s _

/-! ### Sampled pads (R62, R63) -/

/-- A driven pad shows its drive, whatever its pull is. -/
theorem sampledPad_driven {driven : List (Pin × Level)} {p i : Nibble} {b : Level}
    (h : driven.lookup ⟨p, i⟩ = some b) (pull : Pull) (drawn : Level) :
    sampledPad (drivenExt driven p i) pull drawn = b := by
  cases b <;> simp [drivenExt, h, sampledPad]

/-- The environment leaves every other pad at Z. -/
theorem drivenExt_undriven {driven : List (Pin × Level)} {p i : Nibble} (h : driven.lookup ⟨p, i⟩ = none) :
    drivenExt driven p i = .z := by
  simp [drivenExt, h]

/-- Of the three parts of a Tick only pad sampling writes PADIN (00_scope.md R12). -/
theorem tick_padin (ext : Nibble → Nibble → Ext) (s : State) : (tick ext s).padin = (samplePads ext s).padin :=
  advanceSequencer_keeps (field := (·.padin)) microStep_padin (samplePads ext s)

/-! ### The obligations -/

/-- Settles O34: PADIN after the Tick is what pad sampling made of the pads before it. -/
theorem padSamplingOfATick : Obligations.PadSamplingOfATick := by
  intro s driven rest hi hq
  refine ⟨_, step_tick hi (quiet_iff_dueLine_eq_none.mp hq), fun p i hp => ?_⟩
  have hpad : pinGet (tick (drivenExt driven) { s with inputs := rest }).padin p i =
      sampledPad (drivenExt driven p i) (pinGet s.pull p i) (Config.draw s.draws p i) := by
    rw [tick_padin, samplePads_padin]
    exact if_pos hp
  rw [hpad]
  exact ⟨fun b hb => sampledPad_driven hb _ _, fun hz hup => by rw [drivenExt_undriven hz, hup]; rfl,
    fun hz hdown => by rw [drivenExt_undriven hz, hdown]; rfl⟩

/-- Settles O29: the first SET_MODE leaves the pin in its mode with the clock on, and two inversions of a latch bit
cancel. -/
theorem secondSetModeAndSecondToggle : Obligations.SecondSetModeAndSecondToggle := by
  intro s pin mode hp ha
  constructor
  · refine ⟨_, exec_setMode_of_accepted mode hp ha, ?_⟩
    have hset : doSetMode pin mode (respond 0 (doSetMode pin mode s)) = respond 0 (doSetMode pin mode s) :=
      doSetMode_of_set (by simp) (by simp [getLsbD_putBit_same, -BitVec.getLsbD_eq_getElem])
        (by simp [pinGet_pinSet])
    have hagain := exec_setMode_of_accepted (s := respond 0 (doSetMode pin mode s)) mode hp ha
    rwa [hset] at hagain
  · intro hc
    refine ⟨_, _, exec_toggle_of_accepted hp ha hc, exec_toggle_of_accepted hp ha hc, ?_⟩
    simp [respond, emit, rspWord]

end Sys2Proof.Machine

/-! Forty pulses, one Reading (20_memory.md R67; 43_decoder.md R176 to R182, R187): what one Tick does to a wait of the
decoder, then a pulse, then a run of pulses with the bits captured so far, then the obligation. -/

namespace Sys2Proof.Machine

/-- A run, and one step more. -/
theorem run_then_step {n : Nat} {s t u : State} (h : core.run n s = .next t) (h' : step t = .next u) :
    core.run (n + 1) s = .next u := by
  rw [run_add core _ _ _ _ h, run_step h']
  rfl

/-! ### One Tick of a wait (42_observer.md R155, 43_decoder.md R173) -/

/-- A wait of the decoder is one observer micro-step per Tick. -/
theorem microStep_of_decoderObserves {s : State} (waits : decoderObserves s = true) (position : positionOk s = true) :
    ∃ ended, microStep s = observerStep ended s := by
  unfold decoderObserves at waits
  unfold positionOk at position
  unfold microStep
  cases hd : s.dstate <;> simp only [hd] at waits position ⊢
  case awaitAck1 => exact ⟨_, rfl⟩
  case awaitAck2 => exact ⟨_, rfl⟩
  case bitCapture =>
    by_cases hw : s.dphase = phaseWaitHigh
    · exact ⟨_, if_pos hw⟩
    · have hm : s.dphase = phaseMeasure := by simpa [hw] using position
      exact ⟨_, by rw [if_neg hw, if_pos hm]⟩
  all_goals cases waits

theorem microStep_waitHigh {s : State} (hd : s.dstate = .bitCapture) (hp : s.dphase = phaseWaitHigh) :
    microStep s = observerStep waitHighEnded s := by
  simp [microStep, hd, hp]

theorem microStep_measure {s : State} (hd : s.dstate = .bitCapture) (hp : s.dphase = phaseMeasure) :
    microStep s = observerStep measureEnded s := by
  simp [microStep, hd, hp, phaseWaitHigh, phaseMeasure]

/-- A poll that finds the target ends the observation with the count. -/
theorem observerStep_match (ended : Half → State → State) {s : State}
    (h : level s s.opin.port s.opin.index = s.otarget) : observerStep ended s = ended (s.ocnt + 1) (polled s) := by
  rcases observerStep_cases ended s with ⟨-, hend⟩ | ⟨hne, -⟩ | ⟨hne, -⟩
  · exact hend
  · exact absurd h hne
  · exact absurd h hne

/-- A poll that finds neither the target nor the bound is counted only. -/
theorem observerStep_poll (ended : Half → State → State) {s : State}
    (h : level s s.opin.port s.opin.index ≠ s.otarget) (left : s.ocnt + 1 < s.omax) :
    observerStep ended s = polled s := by
  rcases observerStep_cases ended s with ⟨heq, -⟩ | ⟨-, hb, -⟩ | ⟨-, -, hgo⟩
  · exact absurd heq h
  · exact absurd left (BitVec.not_lt.mpr hb)
  · exact hgo

/-- A running wait's count does not wrap at the next poll. -/
theorem StateInv.toNat_count_succ {s : State} (inv : StateInv s) (waits : decoderObserves s = true) :
    (s.ocnt + 1).toNat = s.ocnt.toNat + 1 :=
  toNat_succ (inv.count_left (.inr waits))

theorem StateInv.count_succ_ne_zero {s : State} (inv : StateInv s) (waits : decoderObserves s = true) :
    s.ocnt + 1 ≠ 0 := by
  intro h
  have hcount := inv.toNat_count_succ waits
  rw [h] at hcount
  exact Nat.succ_ne_zero _ hcount.symm

/-- From `s` to `t` no bit is captured and nothing is put out: what the pulse's bit will be shifted into is kept. -/
structure CaptureKept (s t : State) : Prop where
  cfg : t.cfg = s.cfg
  dpin : t.dpin = s.dpin
  dstate : t.dstate = s.dstate
  bitidx : t.bitidx = s.bitidx
  frame : t.frame = s.frame
  outputs : t.outputs = s.outputs

/-- The same wait goes on from `s` to `t`: of what it reads only the count and the pads have changed. -/
structure WaitGoesOn (s t : State) : Prop extends CaptureKept s t where
  dphase : t.dphase = s.dphase
  otarget : t.otarget = s.otarget
  omax : t.omax = s.omax

theorem CaptureKept.refl (s : State) : CaptureKept s s := ⟨rfl, rfl, rfl, rfl, rfl, rfl⟩

theorem CaptureKept.trans {s t u : State} (h : CaptureKept s t) (h' : CaptureKept t u) : CaptureKept s u :=
  ⟨h'.cfg.trans h.cfg, h'.dpin.trans h.dpin, h'.dstate.trans h.dstate, h'.bitidx.trans h.bitidx,
    h'.frame.trans h.frame, h'.outputs.trans h.outputs⟩

theorem WaitGoesOn.refl (s : State) : WaitGoesOn s s := ⟨.refl s, rfl, rfl, rfl⟩

theorem WaitGoesOn.trans {s t u : State} (h : WaitGoesOn s t) (h' : WaitGoesOn t u) : WaitGoesOn s u :=
  ⟨h.toCaptureKept.trans h'.toCaptureKept, h'.dphase.trans h.dphase, h'.otarget.trans h.otarget,
    h'.omax.trans h.omax⟩

/-- A poll that is only counted, and the edge detector after it, let the wait go on. -/
theorem WaitGoesOn.after_poll {s t : State} (h : WaitGoesOn s t) : WaitGoesOn s (detectEdges (polled t)) :=
  ⟨⟨h.cfg, h.dpin, h.dstate, h.bitidx, h.frame, h.outputs⟩, h.dphase, h.otarget, h.omax⟩

theorem WaitGoesOn.waits {s t : State} (h : WaitGoesOn s t) (waits : decoderObserves s = true) :
    decoderObserves t = true := by
  simpa [decoderObserves, h.dstate] using waits

/-- Each Tick of a wait that drives the decoder's pin is one micro-step that sees this level. No Dispatch comes before
it, because the masked window is open (43_decoder.md R169). -/
theorem StateInv.step_wait {s : State} (inv : StateInv s) (waits : decoderObserves s = true)
    {d : List (Pin × Level)} {rest : List Input} {b : Level} (hi : s.inputs = .tick d :: rest)
    (hl : d.lookup s.dpin = some b) :
    ∃ u, step s = .next (detectEdges (microStep u)) ∧ WaitGoesOn s u ∧ u.inputs = rest ∧ u.ocnt = s.ocnt ∧
      level u u.opin.port u.opin.index = b := by
  have hw : inWindow s = true := inWindow_of_decoderObserves waits
  have hm : s.imask = true := inv.masked_window.trans hw
  obtain ⟨hinput, -⟩ := inv.released (wireReleased_of_decoderObserves waits)
  refine ⟨samplePads (drivenExt d) { s with inputs := rest }, ?_, ?_, rfl, rfl, ?_⟩
  · rw [step_tick hi (dueLine_masked (.inl hm))]
    exact congrArg _ (tick_active _ (.inl (dstate_ne_idle_of_inWindow hw)) (inv.masked_alone hm))
  · exact ⟨⟨rfl, rfl, rfl, rfl, rfl, rfl⟩, rfl, rfl, rfl⟩
  · simp only [samplePads_opin, inv.own_pin waits]
    rw [level_input, samplePads_padin, if_pos]
    · exact sampledPad_driven hl _ _
    · exact inv.dpin_exists
    · exact hinput

/-- A Tick that shows the awaited level ends the observation, with this Tick counted. -/
theorem StateInv.step_match {s : State} (inv : StateInv s) (waits : decoderObserves s = true)
    {d : List (Pin × Level)} {rest : List Input} (hi : s.inputs = .tick d :: rest)
    (hl : d.lookup s.dpin = some s.otarget) :
    ∃ u, step s = .next (detectEdges (microStep u)) ∧ WaitGoesOn s u ∧ u.inputs = rest ∧
      ∀ ended, observerStep ended u = ended (s.ocnt + 1) (polled u) := by
  obtain ⟨u, hstep, hgo, hrest, hcnt, hlevel⟩ := inv.step_wait waits hi hl
  exact ⟨u, hstep, hgo, hrest, fun ended => hcnt ▸ observerStep_match ended (hlevel.trans hgo.otarget.symm)⟩

/-- A Tick that shows the other level before the last poll of the bound is counted and no more. -/
theorem StateInv.step_poll {s : State} (inv : StateInv s) (waits : decoderObserves s = true)
    {d : List (Pin × Level)} {rest : List Input} (hi : s.inputs = .tick d :: rest)
    (hl : d.lookup s.dpin = some !s.otarget) (left : s.ocnt.toNat + 1 < s.omax.toNat) :
    ∃ t, step s = .next t ∧ WaitGoesOn s t ∧ t.inputs = rest ∧ t.ocnt.toNat = s.ocnt.toNat + 1 := by
  obtain ⟨u, hstep, hgo, hrest, hcnt, hlevel⟩ := inv.step_wait waits hi hl
  have hcount := inv.toNat_count_succ waits
  have hpoll : microStep u = polled u := by
    have position : positionOk u = true := by simpa [positionOk, hgo.dstate, hgo.dphase] using inv.position
    obtain ⟨ended, hended⟩ := microStep_of_decoderObserves (hgo.waits waits) position
    rw [hended]
    refine observerStep_poll ended (by simp [hlevel, hgo.otarget]) (BitVec.lt_def.mpr ?_)
    rw [hcnt, hgo.omax, hcount]
    exact left
  rw [hpoll] at hstep
  exact ⟨_, hstep, hgo.after_poll, hrest, by rw [detectEdges_ocnt, polled_ocnt, hcnt, hcount]⟩

/-- Ticks that show the other level, fewer than the bound leaves, are counted and no more. -/
theorem StateInv.run_wait {ds : List (List (Pin × Level))} {rest : List Input} {s : State} (inv : StateInv s)
    (waits : decoderObserves s = true) (hl : ∀ d ∈ ds, d.lookup s.dpin = some !s.otarget)
    (left : s.ocnt.toNat + ds.length < s.omax.toNat) (hi : s.inputs = ds.map .tick ++ rest) :
    ∃ t, core.run ds.length s = .next t ∧ StateInv t ∧ WaitGoesOn s t ∧ t.inputs = rest ∧
      t.ocnt.toNat = s.ocnt.toNat + ds.length := by
  induction ds generalizing s with
  | nil => exact ⟨s, rfl, inv, .refl s, hi, rfl⟩
  | cons d ds ih =>
    obtain ⟨hd, hds⟩ := List.forall_mem_cons.mp hl
    rw [List.length_cons] at left
    obtain ⟨u, hstep, hgo, hrest, hcnt⟩ := inv.step_poll waits hi hd (by omega)
    obtain ⟨t, hrun, htinv, htgo, htrest, htcnt⟩ := ih (stepKeepsInvariant _ _ inv hstep) (hgo.waits waits)
      (by simpa [hgo.dpin, hgo.otarget] using hds) (by rw [hcnt, hgo.omax]; omega) hrest
    exact ⟨t, (run_step hstep).trans hrun, htinv, hgo.trans htgo, htrest, by rw [htcnt, hcnt, List.length_cons]; omega⟩

/-! ### One pulse (43_decoder.md R176 to R179) -/

theorem decoderObserves_of_bitCapture {s : State} (h : s.dstate = .bitCapture) : decoderObserves s = true := by
  simp [decoderObserves, h]

/-- The first high Tick of a pulse is over, and its length is about to be counted (R176). -/
def measuresPulse (s : State) : Prop :=
  s.dstate = .bitCapture ∧ s.dphase = phaseMeasure ∧ s.otarget = false ∧ s.omax = s.cfg.bitTimeout ∧ s.ocnt = 0

/-- The gap before a pulse and its first high Tick begin the measurement (R176). -/
theorem StateInv.run_gap {lows : List (List (Pin × Level))} {d : List (Pin × Level)} {rest : List Input} {s : State}
    (inv : StateInv s) (hw : awaitsPulse s) (hlows : ∀ x ∈ lows, x.lookup s.dpin = some false)
    (hgap : lows.length < s.cfg.bitTimeout.toNat) (hd : d.lookup s.dpin = some true)
    (hi : s.inputs = lows.map .tick ++ .tick d :: rest) :
    ∃ t, core.run (lows.length + 1) s = .next t ∧ StateInv t ∧ CaptureKept s t ∧ t.inputs = rest ∧
      measuresPulse t := by
  obtain ⟨hstate, hphase, htarget, hmax, hcnt⟩ := hw
  have waits := decoderObserves_of_bitCapture hstate
  obtain ⟨a, harun, hainv, hago, harest, -⟩ :=
    inv.run_wait waits (by simpa [htarget] using hlows) (by simpa [hcnt, hmax] using hgap) hi
  obtain ⟨u, hstep, hgo, hrest, hended⟩ := hainv.step_match (hago.waits waits) harest
    (by rw [hago.dpin, hago.otarget, htarget, hd])
  have hkept := hago.trans hgo
  rw [microStep_waitHigh (hkept.dstate.trans hstate) (hkept.dphase.trans hphase), hended, waitHighEnded,
    if_neg (hainv.count_succ_ne_zero (hago.waits waits))] at hstep
  refine ⟨_, run_then_step harun hstep, stepKeepsInvariant _ _ hainv hstep, ?_, by simpa using hrest, ?_⟩
  · constructor <;> simp [hkept.cfg, hkept.dpin, hkept.dstate, hkept.bitidx, hkept.frame, hkept.outputs]
  · simp [measuresPulse, hkept.dstate, hstate]

/-- The other high Ticks are counted, and the low Tick after them shifts in the bit that the count decides (R177 to
R179). -/
theorem StateInv.run_measure {highs : List (List (Pin × Level))} {d : List (Pin × Level)} {rest : List Input}
    {s : State} (inv : StateInv s) (hw : measuresPulse s) (hhighs : ∀ x ∈ highs, x.lookup s.dpin = some true)
    (hwidth : highs.length < s.cfg.bitTimeout.toNat) (hd : d.lookup s.dpin = some false)
    (hi : s.inputs = highs.map .tick ++ .tick d :: rest) :
    ∃ v, core.run (highs.length + 1) s = .next (detectEdges (advanceBit (shiftIn
        (decide (s.cfg.thresholdUs < (highs.length + 1) * s.cfg.usPerTick)) v))) ∧
      CaptureKept s v ∧ v.inputs = rest := by
  obtain ⟨hstate, hphase, htarget, hmax, hcnt⟩ := hw
  have waits := decoderObserves_of_bitCapture hstate
  obtain ⟨a, harun, hainv, hago, harest, hacnt⟩ :=
    inv.run_wait waits (by simpa [htarget] using hhighs) (by simpa [hcnt, hmax] using hwidth) hi
  obtain ⟨u, hstep, hgo, hrest, hended⟩ := hainv.step_match (hago.waits waits) harest
    (by rw [hago.dpin, hago.otarget, htarget, hd])
  have hkept := hago.trans hgo
  have hcount : (a.ocnt + 1).toNat = highs.length + 1 := by
    rw [hainv.toNat_count_succ (hago.waits waits), hacnt, hcnt]
    simp
  rw [microStep_measure (hkept.dstate.trans hstate) (hkept.dphase.trans hphase), hended, measureEnded,
    if_neg (hainv.count_succ_ne_zero (hago.waits waits)), decideBit, hcount, polled_cfg, hkept.cfg] at hstep
  exact ⟨polled u, run_then_step harun hstep,
    ⟨hkept.cfg, hkept.dpin, hkept.dstate, hkept.bitidx, hkept.frame, hkept.outputs⟩, hrest⟩

/-- One pulse, Tick by Tick, shifts in its bit, whichever bit it is (R176 to R179). -/
theorem StateInv.run_pulse {s : State} {u : Pulse} {rest : List Input} (inv : StateInv s) (hw : awaitsPulse s)
    (hu : pulseOk s.cfg s.dpin u) (hi : s.inputs = pulseInputs u ++ rest) :
    ∃ v, core.run (u.lows.length + u.highs.length + 1) s =
        .next (detectEdges (advanceBit (shiftIn (pulseBit s.cfg u) v))) ∧
      CaptureKept s v ∧ v.inputs = rest := by
  obtain ⟨hlows, hhighs, hlast, hgap, hone, hwidth⟩ := hu
  obtain ⟨d, ds, hcons⟩ := List.exists_cons_of_length_pos hone
  simp only [hcons, List.forall_mem_cons, List.length_cons] at hhighs hwidth
  obtain ⟨hfirst, hothers⟩ := hhighs
  obtain ⟨t, hrun, htinv, hkept, hrest, hmeasures⟩ := inv.run_gap hw hlows hgap hfirst
    (rest := ds.map .tick ++ .tick u.last :: rest) (by simp [hi, pulseInputs, hcons])
  obtain ⟨v, hvrun, hvkept, hvrest⟩ := htinv.run_measure hmeasures (by simpa [hkept.dpin] using hothers)
    (by rw [hkept.cfg]; omega) (hkept.dpin ▸ hlast) hrest
  refine ⟨v, ?_, hkept.trans hvkept, hvrest⟩
  rw [hkept.cfg] at hvrun
  have hlength : u.lows.length + u.highs.length + 1 = u.lows.length + 1 + (ds.length + 1) := by
    simp only [hcons, List.length_cons]
    omega
  rw [hlength, run_add core _ _ _ _ hrun, hvrun, pulseBit, hcons, List.length_cons]

/-! ### The bits captured (20_memory.md R67, 43_decoder.md R179, R180) -/

/-- Shift-in changes the byte being filled only: one place to the left, the bit from the right (R179). -/
theorem shiftIn_frame_getD (bit : Bool) (s : State) {j : Nat} (hj : j < 5) :
    (shiftIn bit s).frame.getD j 0 =
      if j = s.bitidx.toNat / 8 then (s.frame.getD j 0 <<< 1) ||| (if bit then 1 else 0) else s.frame.getD j 0 := by
  by_cases h : j = s.bitidx.toNat / 8
  · subst h
    simp [shiftIn, Vector.getD, hj]
  · simp [shiftIn, Vector.getD, hj, h, Ne.symm h]

/-- The frame holds these bits, in the order of their capture: bit `n` stands in byte `n / 8`, below the bits of its
byte captured before it and above those captured after it (R67). -/
def holdsBits (bits : List Bool) (f : Vector Byte 5) : Prop :=
  ∀ (n : Nat) (h : n < bits.length),
    (f.getD (n / 8) 0).getLsbD (min bits.length (8 * (n / 8) + 8) - 1 - n) = bits[n]

theorem getLsbD_shiftIn_byte (byte : Byte) (bit : Bool) (k : Nat) (hk : k < 8) :
    ((byte <<< 1) ||| (if bit then 1 else 0)).getLsbD k = if k = 0 then bit else byte.getLsbD (k - 1) := by
  cases k <;> cases bit <;> simp [hk, -BitVec.getLsbD_eq_getElem]

theorem holdsBits_shiftIn {bits : List Bool} {s : State} (hf : holdsBits bits s.frame)
    (hk : s.bitidx.toNat = bits.length) (hlt : bits.length < 40) (bit : Bool) :
    holdsBits (bits ++ [bit]) (shiftIn bit s).frame := by
  intro n hn
  simp only [List.length_append, List.length_singleton] at hn ⊢
  rw [shiftIn_frame_getD bit s (by omega), hk]
  split
  case isTrue hbyte =>
    rw [getLsbD_shiftIn_byte _ _ _ (by omega)]
    by_cases hlast : n = bits.length
    · subst hlast
      simp
    · have hpos : min (bits.length + 1) (8 * (n / 8) + 8) - 1 - n - 1 = min bits.length (8 * (n / 8) + 8) - 1 - n := by
        omega
      rw [if_neg (by omega), hpos, hf n (by omega), List.getElem_append_left]
  case isFalse hbyte =>
    have hpos : min (bits.length + 1) (8 * (n / 8) + 8) = min bits.length (8 * (n / 8) + 8) := by omega
    have hn : n < bits.length := by
      by_contra hge
      exact hbyte (by rw [show n = bits.length by omega])
    rw [hpos, hf n hn, List.getElem_append_left]

/-- Before the fortieth bit the decoder goes on to wait for the next pulse (R180). -/
theorem advanceBit_of_lt {s : State} (h : s.bitidx.toNat < 39) : advanceBit s =
    arm true s.cfg.bitTimeout { s with bitidx := s.bitidx + 1, dphase := phaseWaitHigh } :=
  if_pos h

/-- With the fortieth bit the window closes and the Reading is delivered (R180). -/
theorem advanceBit_of_last {s : State} (h : s.bitidx.toNat = 39) : advanceBit s = deliver { s with imask := false } :=
  if_neg (Nat.not_lt.mpr h.ge)

/-- The decode that waited in `s₀` has captured `bits` and put nothing out, and waits for the next pulse. -/
structure Captured (s₀ : State) (bits : List Bool) (s : State) : Prop where
  inv : StateInv s
  awaits : awaitsPulse s
  cfg : s.cfg = s₀.cfg
  dpin : s.dpin = s₀.dpin
  bitidx : s.bitidx.toNat = bits.length
  frame : holdsBits bits s.frame
  outputs : s.outputs = s₀.outputs

/-- A pulse before the last is one more bit captured. -/
theorem Captured.run_pulse {s₀ s : State} {bits : List Bool} {u : Pulse} {rest : List Input} (hs : Captured s₀ bits s)
    (hlt : bits.length < 39) (hu : pulseOk s₀.cfg s₀.dpin u) (hi : s.inputs = pulseInputs u ++ rest) :
    ∃ n t, core.run n s = .next t ∧ Captured s₀ (bits ++ [pulseBit s₀.cfg u]) t ∧ t.inputs = rest := by
  obtain ⟨v, hrun, hkept, hrest⟩ := hs.inv.run_pulse hs.awaits (by rwa [hs.cfg, hs.dpin]) hi
  obtain ⟨hstate, -⟩ := hs.awaits
  have hidx : v.bitidx.toNat = bits.length := by rw [hkept.bitidx, hs.bitidx]
  have hlt39 : v.bitidx.toNat < 39 := by omega
  rw [hs.cfg, advanceBit_of_lt (s := shiftIn _ v) hlt39] at hrun
  refine ⟨_, _, hrun, ?_, by simpa using hrest⟩
  exact {
    inv := run_induction stepKeepsInvariant hs.inv hrun
    awaits := by simp [awaitsPulse, hkept.dstate, hstate]
    cfg := by simp [hkept.cfg, hs.cfg]
    dpin := by simp [hkept.dpin, hs.dpin]
    bitidx := by
      have hsucc : (v.bitidx + 1).toNat = v.bitidx.toNat + 1 := toNat_succ (bound := 39) hlt39
      simp only [detectEdges_bitidx, arm_bitidx, shiftIn_bitidx, hsucc, hidx, List.length_append, List.length_singleton]
    frame := by
      simpa using holdsBits_shiftIn (by rw [hkept.frame]; exact hs.frame) hidx (by omega) (pulseBit s₀.cfg u)
    outputs := by simp [hkept.outputs, hs.outputs] }

/-- So are several pulses before the last. -/
theorem Captured.run_pulses {us : List Pulse} {s₀ s : State} {bits : List Bool} {rest : List Input}
    (hs : Captured s₀ bits s) (hle : bits.length + us.length ≤ 39) (hus : ∀ u ∈ us, pulseOk s₀.cfg s₀.dpin u)
    (hi : s.inputs = us.flatMap pulseInputs ++ rest) :
    ∃ n t, core.run n s = .next t ∧ Captured s₀ (bits ++ us.map (pulseBit s₀.cfg)) t ∧ t.inputs = rest := by
  induction us generalizing s bits with
  | nil => exact ⟨0, s, rfl, by simpa using hs, hi⟩
  | cons u us ih =>
    obtain ⟨hu, hothers⟩ := List.forall_mem_cons.mp hus
    rw [List.length_cons] at hle
    obtain ⟨m, a, hm, ha, harest⟩ :=
      hs.run_pulse (rest := us.flatMap pulseInputs ++ rest) (by omega) hu (by simpa using hi)
    obtain ⟨n, t, hn, ht, htrest⟩ :=
      ih ha (by simp only [List.length_append, List.length_singleton]; omega) hothers harest
    exact ⟨m + n, t, (run_add core _ _ _ _ hm).trans hn, by simpa using ht, htrest⟩

/-- The fortieth pulse ends the decode with the Reading of its frame (R180 to R182). -/
theorem Captured.run_lastPulse {s₀ s : State} {bits : List Bool} {u : Pulse} {rest : List Input}
    (hs : Captured s₀ bits s) (hlast : bits.length = 39) (hu : pulseOk s₀.cfg s₀.dpin u)
    (hi : s.inputs = pulseInputs u ++ rest) :
    ∃ n t, core.run n s = .next t ∧ t.inputs = rest ∧ t.dstate = .idle ∧ t.imask = false ∧
      t.outputs = s₀.outputs ++ [.readDone (frameWord t.frame)] ∧ holdsBits (bits ++ [pulseBit s₀.cfg u]) t.frame := by
  obtain ⟨v, hrun, hkept, hrest⟩ := hs.inv.run_pulse hs.awaits (by rwa [hs.cfg, hs.dpin]) hi
  have hidx : v.bitidx.toNat = bits.length := by rw [hkept.bitidx, hs.bitidx]
  rw [hs.cfg, advanceBit_of_last (s := shiftIn _ v) (hidx.trans hlast)] at hrun
  have hbits := holdsBits_shiftIn (by rw [hkept.frame]; exact hs.frame) hidx (by omega) (pulseBit s₀.cfg u)
  refine ⟨_, _, hrun, by simpa using hrest, by simp, by simp, ?_, by simpa using hbits⟩
  simp [hkept.outputs, hs.outputs]

/-- In a full frame bit `n` stands at its final place, MSB first (R67). -/
theorem holdsBits_full {bits : List Bool} {f : Vector Byte 5} (h : holdsBits bits f) (hlen : bits.length = 40) {n : Nat}
    (hn : n < bits.length) : (f.getD (n / 8) 0).getLsbD (7 - n % 8) = bits[n] := by
  have hpos : min bits.length (8 * (n / 8) + 8) - 1 - n = 7 - n % 8 := by omega
  rw [← hpos, h n hn]

/-! ### The obligation -/

/-- Settles O50: thirty-nine pulses keep the decoder waiting with their bits captured, and the fortieth delivers. -/
theorem fortyPulsesDecodeBitExact : Obligations.FortyPulsesDecodeBitExact := by
  intro s us rest inv hw hk hlen hus hi
  obtain ⟨us, u, rfl⟩ : ∃ us' u, us = us' ++ [u] :=
    ⟨us.dropLast, us.getLast (List.ne_nil_of_length_pos (by omega)), (List.dropLast_append_getLast _).symm⟩
  rw [List.length_append, List.length_singleton] at hlen
  have hstart : Captured s [] s := ⟨inv, hw, rfl, rfl, by simp [hk], fun n hn => absurd hn (Nat.not_lt_zero n), rfl⟩
  obtain ⟨m, a, hm, ha, harest⟩ := hstart.run_pulses (us := us) (rest := pulseInputs u ++ rest)
    (by simp only [List.length_nil]; omega) (fun x hx => hus x (by simp [hx])) (by simpa using hi)
  obtain ⟨n, t, hn, htrest, hidle, hmask, hout, hbits⟩ :=
    ha.run_lastPulse (by simp only [List.nil_append, List.length_map]; omega) (hus u (by simp)) harest
  refine ⟨m + n, t, t.frame, (run_add core _ _ _ _ hm).trans hn, htrest, hidle, hmask, rfl, hout, fun k h => ?_⟩
  have hmap : [] ++ us.map (pulseBit s.cfg) ++ [pulseBit s.cfg u] = (us ++ [u]).map (pulseBit s.cfg) := by simp
  rw [hmap] at hbits
  rw [holdsBits_full hbits (by simp only [List.length_map, List.length_append, List.length_singleton]; omega)
    (by simpa using h), List.getElem_map]

end Sys2Proof.Machine

/-! The statements of 30_encoding.md: decode and encode agree, and the accepted words are those of the opcode table. First
what each part of the decoder accepts, then what the table's masks say field by field, then the obligations. -/

namespace Sys2Proof

/-! ### What the decoder accepts (R86 to R94) -/

theorem pinModeOf_eq_some {sub : Nibble} {m : PinMode} : pinModeOf sub = some m ↔ pinModeCode m = sub := by
  refine ⟨?_, fun h => h ▸ pinModeOf_code m⟩
  cases m <;> decide +revert

theorem triggerOf_eq_some {sub : Nibble} {m : TriggerMode} : triggerOf sub = some m ↔ triggerCode m = sub := by
  refine ⟨?_, fun h => h ▸ triggerOf_code m⟩
  cases m <;> decide +revert

theorem levelOf_eq_some {sub : Nibble} {b : Level} : levelOf sub = some b ↔ levelCode b = sub := by
  refine ⟨?_, fun h => h ▸ levelOf_code b⟩
  cases b <;> decide +revert

/-- A command without an enumeration is read exactly if its unused fields are zero (R93). -/
theorem ifUnusedZero_ok {zero : Bool} {i j : Instr} : ifUnusedZero zero (.ok j) = .ok i ↔ zero = true ∧ j = i := by
  cases zero <;> simp [ifUnusedZero]

/-- A command with an enumeration in `sub` is read exactly if its unused fields are zero and the operand has a meaning
(R93, R94). -/
theorem ifUnusedZero_withOperand {α : Type} {zero : Bool} {operand : Option α} {why : Illegal} {instr : α → Instr}
    {i : Instr} : ifUnusedZero zero (withOperand operand why instr) = .ok i ↔
      zero = true ∧ ∃ a, operand = some a ∧ instr a = i := by
  cases zero <;> cases operand <;> simp [ifUnusedZero, withOperand]

/-- The fields of a command are read as that command: the codes of R88 to R90 and the halves of `imm` are read back. -/
theorem decodeFields_fieldsOf (i : Instr) : decodeFields (fieldsOf i) = .ok i := by
  cases i with
  | setMode _ mode => simp [decodeFields, fieldsOf, ifUnusedZero_withOperand, pinModeOf_code mode]
  | setTrigger _ mode => simp [decodeFields, fieldsOf, ifUnusedZero_withOperand, triggerOf_code mode]
  | set _ b => simp [decodeFields, fieldsOf, ifUnusedZero_withOperand, levelOf_code b]
  | observe _ b n =>
    simp [decodeFields, fieldsOf, ifUnusedZero_withOperand, levelOf_code b, immHigh_of_half n, immLow_of_half n]
  | setRange _ _ v => simp [decodeFields, fieldsOf, ifUnusedZero_ok, immHigh_of_half v, immLow_of_half v]
  | _ => simp [decodeFields, fieldsOf, ifUnusedZero_ok]

/-- Fields that are read as a command are that command's fields, one row of R86 after the other. -/
theorem fieldsOf_of_decodeFields {f : Fields} {i : Instr} (h : decodeFields f = .ok i) : fieldsOf i = f := by
  obtain ⟨op, port, index, sub, count, rsv, imm⟩ := f
  simp only [decodeFields, ite_eq_iff, ifUnusedZero_ok, ifUnusedZero_withOperand, pinModeOf_eq_some, triggerOf_eq_some,
    levelOf_eq_some, reduceCtorEq, and_false, or_false, Bool.and_eq_true, beq_iff_eq] at h
  rcases h with h | ⟨-, h | ⟨-, h | ⟨-, h | ⟨-, h | ⟨-, h | ⟨-, h | ⟨-, h | ⟨-, h | ⟨-, h | ⟨-, h⟩⟩⟩⟩⟩⟩⟩⟩⟩⟩
  · obtain ⟨rfl, ⟨⟨rfl, rfl⟩, rfl⟩, mode, rfl, rfl⟩ := h
    rfl
  · obtain ⟨rfl, ⟨⟨rfl, rfl⟩, rfl⟩, b, rfl, rfl⟩ := h
    rfl
  · obtain ⟨rfl, ⟨⟨rfl, rfl, rfl⟩, rfl⟩, rfl⟩ := h
    rfl
  · obtain ⟨rfl, ⟨⟨rfl, rfl, rfl⟩, rfl⟩, rfl⟩ := h
    rfl
  · obtain ⟨rfl, ⟨⟨rfl, rfl⟩, himm⟩, rfl⟩ := h
    rw [fieldsOf, imm_of_high_zero imm himm]
  · obtain ⟨rfl, ⟨⟨rfl, rfl⟩, rfl⟩, rfl⟩ := h
    rfl
  · obtain ⟨rfl, ⟨⟨rfl, rfl⟩, rfl⟩, mode, rfl, rfl⟩ := h
    rfl
  · obtain ⟨rfl, ⟨rfl, rfl, rfl⟩, rfl⟩ := h
    rfl
  · obtain ⟨rfl, ⟨⟨rfl, rfl⟩, himm⟩, b, rfl, rfl⟩ := h
    rw [fieldsOf, imm_of_high_zero imm himm]
  · obtain ⟨rfl, ⟨⟨rfl, rfl, rfl⟩, rfl⟩, rfl⟩ := h
    rfl
  · obtain ⟨rfl, ⟨⟨⟨⟨rfl, rfl⟩, rfl⟩, rfl, rfl⟩, rfl⟩, rfl⟩ := h
    rfl

/-- The decoder is the inverse of the encoder (R93, R95). -/
theorem decode_eq_ok {w : CmdWord} {i : Instr} : decode w = .ok i ↔ encode i = w := by
  constructor
  · intro h
    rw [encode, fieldsOf_of_decodeFields h, join_split]
  · rintro rfl
    rw [decode, encode, split_join, decodeFields_fieldsOf]

/-! ### The opcode table, field by field (R86, R94) -/

/-- What a mask leaves of the fields of a word (`splitFields_and`). -/
def Fields.and (f m : Fields) : Fields :=
  ⟨f.op &&& m.op, f.port &&& m.port, f.index &&& m.index, f.sub &&& m.sub, f.count &&& m.count, f.rsv &&& m.rsv,
    f.imm &&& m.imm⟩

theorem splitFields_and (w m : CmdWord) : splitFields (w &&& m) = (splitFields w).and (splitFields m) := by
  simp only [splitFields, Fields.and, BitVec.extractLsb'_and]

/-- A row admits the words that match it and whose `sub` field it allows. -/
theorem Row.admits_iff {row : Row} {w : CmdWord} :
    row.admits w = true ↔ w &&& row.mask = row.pattern ∧ (splitFields w).sub.toNat ≤ row.subMax := by
  simp [Row.admits, splitFields]

/-- The `sub` values that R94 (c) leaves are the codes of the modes; likewise (d) and (e) below. -/
theorem exists_pinModeCode {sub : Nibble} (h : sub.toNat ≤ 4) : ∃ m, pinModeCode m = sub :=
  (Option.isSome_iff_exists.mp (by decide +revert)).imp fun _ => pinModeOf_eq_some.mp

theorem exists_triggerCode {sub : Nibble} (h : sub.toNat ≤ 2) : ∃ m, triggerCode m = sub :=
  (Option.isSome_iff_exists.mp (by decide +revert)).imp fun _ => triggerOf_eq_some.mp

theorem exists_levelCode {sub : Nibble} (h : sub.toNat ≤ 1) : ∃ b, levelCode b = sub :=
  (Option.isSome_iff_exists.mp (by decide +revert)).imp fun _ => levelOf_eq_some.mp

/-- A field that is masked whole. -/
theorem and_ones {n : Nat} {x m : BitVec n} (h : m = BitVec.allOnes n) : x &&& m = x := by
  rw [h, BitVec.and_allOnes]

/-- The mask of an `imm` that carries sixteen bits checks its high half (R92). -/
theorem immHigh_of_masked {imm : BitVec 32} (h : imm &&& 0xFFFF0000#32 = 0#32) : imm.extractLsb' 16 16 = 0#16 := by
  have hhigh := congrArg (BitVec.extractLsb' 16 16) h
  simpa [BitVec.extractLsb'_and, and_ones] using hhigh

/-- Fields with a row's fixed bits and a `sub` the row allows are the fields of a command, row by row. -/
theorem exists_fieldsOf {row : Row} (hrow : row ∈ opcodeTable) {f : Fields}
    (hmask : f.and (splitFields row.mask) = splitFields row.pattern) (hsub : f.sub.toNat ≤ row.subMax) :
    ∃ i, fieldsOf i = f := by
  obtain ⟨op, port, index, sub, count, rsv, imm⟩ := f
  simp only [opcodeTable, List.mem_cons, List.not_mem_nil, or_false] at hrow
  obtain rfl | rfl | rfl | rfl | rfl | rfl | rfl | rfl | rfl | rfl | rfl := hrow
  all_goals
    simp only [Fields.and, splitFields, rowOf, BitVec.ofNat_eq_ofNat, BitVec.reduceExtractLsb', BitVec.reduceAllOnes,
      and_ones, BitVec.and_zero, Fields.mk.injEq, and_true, true_and] at hmask
  · obtain ⟨rfl, rfl, rfl, rfl⟩ := hmask
    obtain ⟨mode, rfl⟩ := exists_pinModeCode hsub
    exact ⟨.setMode ⟨port, index⟩ mode, rfl⟩
  · obtain ⟨rfl, rfl, rfl, rfl⟩ := hmask
    obtain ⟨b, rfl⟩ := exists_levelCode hsub
    exact ⟨.set ⟨port, index⟩ b, rfl⟩
  · obtain ⟨rfl, rfl, rfl, rfl, rfl⟩ := hmask
    exact ⟨.get ⟨port, index⟩, rfl⟩
  · obtain ⟨rfl, rfl, rfl, rfl, rfl⟩ := hmask
    exact ⟨.toggle ⟨port, index⟩, rfl⟩
  · obtain ⟨rfl, rfl, rfl, himm⟩ := hmask
    exact ⟨.setRange ⟨port, index⟩ count (imm.extractLsb' 0 16),
      by rw [fieldsOf, imm_of_high_zero imm (immHigh_of_masked himm)]; rfl⟩
  · obtain ⟨rfl, rfl, rfl, rfl⟩ := hmask
    exact ⟨.getRange ⟨port, index⟩ count, rfl⟩
  · obtain ⟨rfl, rfl, rfl, rfl⟩ := hmask
    obtain ⟨mode, rfl⟩ := exists_triggerCode hsub
    exact ⟨.setTrigger ⟨port, index⟩ mode, rfl⟩
  · obtain ⟨rfl, rfl, rfl, rfl⟩ := hmask
    exact ⟨.setCallback ⟨port, index⟩ imm, rfl⟩
  · obtain ⟨rfl, rfl, rfl, himm⟩ := hmask
    obtain ⟨b, rfl⟩ := exists_levelCode hsub
    exact ⟨.observe ⟨port, index⟩ b (imm.extractLsb' 0 16),
      by rw [fieldsOf, imm_of_high_zero imm (immHigh_of_masked himm)]; rfl⟩
  · obtain ⟨rfl, rfl, rfl, rfl, rfl⟩ := hmask
    exact ⟨.read ⟨port, index⟩, rfl⟩
  · obtain ⟨rfl, rfl, rfl, rfl, rfl, rfl, rfl⟩ := hmask
    exact ⟨.cbReturn, rfl⟩

/-- Every word that a row admits is a command's word. -/
theorem exists_encode_of_admits {row : Row} (hrow : row ∈ opcodeTable) {w : CmdWord} (h : row.admits w = true) :
    ∃ i, encode i = w := by
  obtain ⟨hmatch, hsub⟩ := Row.admits_iff.mp h
  obtain ⟨i, hi⟩ := exists_fieldsOf hrow (f := splitFields w) (by rw [← splitFields_and, hmatch]) hsub
  exact ⟨i, by rw [encode, hi, join_split]⟩

theorem rowOf_mem (i : Instr) : rowOf i ∈ opcodeTable := by
  cases i <;> simp [rowOf, opcodeTable]

/-- A command's word belongs to the command's row. -/
theorem rowOf_admits_encode : ∀ i : Instr, (rowOf i).admits (encode i) = true
  | .setMode pin mode => Laws.EncodeFitsRow.setMode pin mode
  | .set pin b => Laws.EncodeFitsRow.set pin b
  | .get pin => Laws.EncodeFitsRow.get pin
  | .toggle pin => Laws.EncodeFitsRow.toggle pin
  | .setRange pin count value => Laws.EncodeFitsRow.setRange pin count value
  | .getRange pin count => Laws.EncodeFitsRow.getRange pin count
  | .setTrigger pin mode => Laws.EncodeFitsRow.setTrigger pin mode
  | .setCallback pin token => Laws.EncodeFitsRow.setCallback pin token
  | .observe pin b maxTicks => Laws.EncodeFitsRow.observe pin b maxTicks
  | .read pin => Laws.EncodeFitsRow.read pin
  | .cbReturn => Laws.EncodeFitsRow.cbReturn

/-- Every row fixes the whole `op` field. -/
theorem op_of_mask : ∀ row ∈ opcodeTable, (splitFields row.mask).op = BitVec.allOnes 4 := by
  decide

/-- No two rows have the same `op`. -/
theorem row_eq_of_op : ∀ r ∈ opcodeTable, ∀ r' ∈ opcodeTable,
    (splitFields r.pattern).op = (splitFields r'.pattern).op → r = r' := by
  decide

/-- A word that matches a row has that row's `op`. -/
theorem op_of_match {row : Row} (hrow : row ∈ opcodeTable) {w : CmdWord} (h : w &&& row.mask = row.pattern) :
    (splitFields w).op = (splitFields row.pattern).op := by
  rw [← h, splitFields_and, Fields.and, and_ones (op_of_mask row hrow)]

/-! ### The obligations -/

/-- Settles O1: splitting the joined fields gives them back, and each operand's code is read back as the operand. -/
theorem decodeOfEncode : Obligations.DecodeOfEncode := fun _ => decode_eq_ok.mpr rfl

/-- Settles O2: a command is read only from its own fields, and the fields are the whole word. -/
theorem encodeOfDecode : Obligations.EncodeOfDecode := fun _ _ => decode_eq_ok.mp

/-- Settles O3: a command's word belongs to the command's row, every word of a row is a command's word, and the `op` field
tells the rows apart. -/
theorem decodeAcceptsExactlyTheTable : Obligations.DecodeAcceptsExactlyTheTable := by
  refine ⟨fun w => ⟨?_, ?_⟩, fun w r hr r' hr' h h' => ?_⟩
  · rintro ⟨i, hi⟩
    obtain rfl := decode_eq_ok.mp hi
    exact ⟨rowOf i, rowOf_mem i, rowOf_admits_encode i⟩
  · rintro ⟨row, hrow, hadmits⟩
    obtain ⟨i, hi⟩ := exists_encode_of_admits hrow hadmits
    exact ⟨i, decode_eq_ok.mpr hi⟩
  · exact row_eq_of_op r hr r' hr' ((op_of_match hr h).symm.trans (op_of_match hr' h'))

end Sys2Proof

/-! The statements of 40_gpio.md: what each GPIO command does and leaves unchanged, and the words of the spec's examples.
First the commands accepted, the registers after a write to one port, and the response words; then the obligations. -/

namespace Sys2Proof.Machine

/-! ### The commands accepted on a clocked port (60_exceptions.md R208, R226) -/

/-- A command of the first column of R226 passes every check where that column is accepted, if it names a pin of an
existing port, its port's clock is on and its range stays in the port. -/
theorem exec_of_accepted {i : Instr} {s : State} {pin : Pin} (hcls : classOf i = .ordinary) (hpin : i.pin? = some pin)
    (hp : pin.port.toNat < s.cfg.nports) (hr : i.rangeInPort = true) (ha : acceptsOrdinary s)
    (hc : bankGet s.clken pin.port = true) : exec i s = .next (effectOf i s) := by
  have hbusy := turnedAway_of_acceptsOrdinary ha
  cases i with
  | observe _ _ _ | read _ | cbReturn => simp [classOf] at hcls
  | setRange _ _ _ | getRange _ _ =>
    obtain rfl := Option.some.inj hpin
    have hfits := of_decide_eq_true hr
    exact guarded_effect (by simp [pinValid, rangeFits, clockOn, hp, hfits, hbusy, hc]) s _
  | _ =>
    obtain rfl := Option.some.inj hpin
    exact guarded_effect (by simp [pinValid, clockOn, hp, hbusy, hc]) s _

/-! ### Registers of pins after a write to one port (40_gpio.md R111, R112, R116, R118) -/

/-- When the word written to port `p` differs from the old one in the `hit` bits only, so do the registers of all pins. -/
theorem getLsbD_bankSet {v : Bank Half} {p : Nibble} {w : Half} {hit : Nibble → Prop} [DecidablePred hit]
    {new : Half → Nibble → Bool}
    (hw : ∀ j : Nibble, w.getLsbD j.toNat = if hit j then new (bankGet v p) j else (bankGet v p).getLsbD j.toNat)
    (q j : Nibble) : (bankGet (bankSet v p w) q).getLsbD j.toNat =
      if q = p ∧ hit j then new (bankGet v q) j else (bankGet v q).getLsbD j.toNat := by
  by_cases hq : q = p
  · subst hq
    simpa only [bankGet_bankSet_same, true_and] using hw j
  · simp only [bankGet_bankSet_other v w (Ne.symm hq), hq, false_and, if_false]

/-- Writing one bit of one port's register (R112), read at every pin. -/
theorem getLsbD_bankSet_putBit (v : Bank Half) (p i : Nibble) (b : Bool) (q j : Nibble) :
    (bankGet (bankSet v p (putBit (bankGet v p) i b)) q).getLsbD j.toNat =
      if q = p ∧ j = i then b else (bankGet v q).getLsbD j.toNat :=
  getLsbD_bankSet (hit := (· = i)) (new := fun _ _ => b)
    (fun j => by simp only [getLsbD_putBit _ _ _ _ j.isLt, BitVec.toNat_inj, eq_comm]) q j

/-- Inverting one bit of one port's register (R116), read at every pin. -/
theorem getLsbD_bankSet_flipBit (v : Bank Half) (p i q j : Nibble) :
    (bankGet (bankSet v p (flipBit (bankGet v p) i)) q).getLsbD j.toNat =
      if q = p ∧ j = i then !(bankGet v q).getLsbD j.toNat else (bankGet v q).getLsbD j.toNat :=
  getLsbD_bankSet (hit := (· = i)) (new := fun w j => !w.getLsbD j.toNat)
    (fun j => by simp only [getLsbD_flipBit _ _ _ j.isLt, BitVec.toNat_inj, eq_comm]) q j

/-- Writing a range of one port's register (R118), read at every pin. -/
theorem getLsbD_bankSet_putRange (v : Bank Half) (p i : Nibble) (count : BitVec 5) (value : Half) (q j : Nibble) :
    (bankGet (bankSet v p (putRange (bankGet v p) i count value)) q).getLsbD j.toNat =
      if q = p ∧ i.toNat ≤ j.toNat ∧ j.toNat < i.toNat + count.toNat then value.getLsbD (j.toNat - i.toNat)
      else (bankGet v q).getLsbD j.toNat :=
  getLsbD_bankSet (hit := fun j => i.toNat ≤ j.toNat ∧ j.toNat < i.toNat + count.toNat)
    (new := fun _ j => value.getLsbD (j.toNat - i.toNat)) (fun j => getLsbD_putRange _ i count value _ j.isLt) q j

/-- The directions that R111 makes outputs. -/
theorem modeDir_eq (mode : PinMode) : modeDir mode = decide (mode = .output) := by
  cases mode <;> rfl

/-! ### Response words (30_encoding.md R96) -/

/-- The response that carries one level (40_gpio.md R114). -/
theorem rspWord_bitAt_zero (b : Level) : rspWord 0 (bitAt b 0) = if b then 1 else 0 := by
  cases b <;> rfl

/-- Pin i + k of a range inside its port has that number (20_memory.md R66, R68). -/
theorem toNat_pin_of_range {i : Nibble} {count : BitVec 5} {k : Nat} (hr : i.toNat + count.toNat ≤ 16)
    (hk : k < count.toNat) : (BitVec.ofNat 4 (i.toNat + k)).toNat = i.toNat + k :=
  Nat.mod_eq_of_lt (by omega)

/-- Bit k of what GET_RANGE reads of a range inside its port (40_gpio.md R120). -/
theorem getLsbD_takeRange_levelWord (s : State) (p i : Nibble) {count : BitVec 5} (hr : i.toNat + count.toNat ≤ 16)
    (k : Nat) : (takeRange (levelWord s p) i count).getLsbD k =
      (decide (k < count.toNat) && level s p (BitVec.ofNat 4 (i.toNat + k))) := by
  rw [getLsbD_takeRange]
  by_cases hk : k < count.toNat
  · rw [← getLsbD_levelWord, toNat_pin_of_range hr hk]
  · simp only [hk, decide_false, Bool.false_and]

/-! ### The obligations -/

/-- Settles O22: the direction bit and the pull of the one pin are written, after the port's clock. -/
theorem setModeResult : Obligations.SetModeResult := by
  intro s pin mode hp ha
  refine ⟨_, exec_setMode_of_accepted mode hp ha, rfl, fun p => ?_, fun p i => ?_, fun p i => ?_⟩
  · simp only [respond_clken, doSetMode_clken, bankGet_bankSet, eq_comm]
  · rw [respond_dir, doSetMode_dir, getLsbD_bankSet_putBit, modeDir_eq]
  · rw [respond_pull, doSetMode_pull, pinGet_pinSet]
    cases mode <;> simp only [modePull, eq_comm]

/-- Settles O23. -/
theorem setResult : Obligations.SetResult := by
  intro s pin b hp ha hc
  exact ⟨_, exec_of_accepted rfl rfl hp rfl ha hc, rfl, getLsbD_bankSet_putBit s.odr pin.port pin.index b⟩

/-- Settles O24: the level view is what the statement writes out, and one bit fills the response. -/
theorem getResult : Obligations.GetResult := by
  intro s pin hp ha hc
  rw [exec_of_accepted rfl rfl hp rfl ha hc, effectOf, respond, rspWord_bitAt_zero]
  rfl

/-- Settles O25. -/
theorem toggleResult : Obligations.ToggleResult := fun s pin hp ha hc =>
  ⟨_, exec_toggle_of_accepted hp ha hc, rfl, getLsbD_bankSet_flipBit s.odr pin.port pin.index⟩

/-- Settles O26. -/
theorem setRangeResult : Obligations.SetRangeResult := by
  intro s pin count value hp hr ha hc
  exact ⟨_, exec_of_accepted rfl rfl hp (decide_eq_true hr) ha hc, rfl,
    getLsbD_bankSet_putRange s.odr pin.port pin.index count value⟩

/-- Settles O27. -/
theorem getRangeResult : Obligations.GetRangeResult := by
  intro s pin count hp hr ha hc
  exact ⟨_, exec_of_accepted rfl rfl hp (decide_eq_true hr) ha hc, fun k _ =>
    getLsbD_takeRange_levelWord s pin.port pin.index hr k⟩

/-- Settles O28: SET_RANGE keeps what GET_RANGE's checks and DIR are made of, and an output pin shows the latch that
SET_RANGE wrote. -/
theorem rangeRoundTrip : Obligations.RangeRoundTrip := by
  intro s pin count value hp hr ha hc hdir
  obtain ⟨t, hset, hframe, hodr⟩ := setRangeResult s pin count value hp hr ha hc
  have hcfg : t.cfg = s.cfg := by rw [hframe]
  have hclken : t.clken = s.clken := by rw [hframe]
  have htdir : t.dir = s.dir := by rw [hframe]
  have hout : t.outputs = s.outputs ++ [.rsp 0] := by rw [hframe]
  have hta : acceptsOrdinary t := by rw [hframe]; exact ha
  obtain ⟨data, hget, hdata⟩ := getRangeResult t pin count (hcfg ▸ hp) hr hta (hclken ▸ hc)
  refine ⟨t, _, data, hset, hget, by simp [hout], fun k hk => ?_⟩
  rw [hdata k hk]
  by_cases hkc : k < count.toNat
  · have hj := toNat_pin_of_range hr hkc
    have hlevel : level t pin.port (BitVec.ofNat 4 (pin.index.toNat + k)) = value.getLsbD k := by
      rw [level_output (by rw [hj, htdir]; exact hdir k hkc), hodr, hj, if_pos ⟨rfl, by omega, by omega⟩,
        Nat.add_sub_cancel_left]
    rw [hlevel]
  · simp only [hkc, decide_false, Bool.false_and]

/-- Settles O4: each word is the encoding of its command. -/
theorem specWordsDecode : Obligations.SpecWordsDecode := by
  unfold Obligations.SpecWordsDecode
  simp only [decode_eq_ok]
  decide

end Sys2Proof.Machine

/-! The statements of 41_edge.md: the three edge commands and the edge detector of a Tick. First the checks that
SET_TRIGGER and SET_CALLBACK pass, the registers of an interrupt group, and PREV and PEND after a Tick; then the
obligations. -/

namespace Sys2Proof.Machine

/-! ### The commands accepted (60_exceptions.md R208, R226) -/

/-- An ordinary command that does not look at the clock passes its two checks on an existing port where its column is
accepted. -/
theorem firstCause_eq_none_of_accepted {s : State} {pin : Pin} (hp : pin.port.toNat < s.cfg.nports)
    (ha : acceptsOrdinary s) :
    firstCause [(.invalidPin, !pinValid s pin), (.busy, turnedAway .ordinary s)] = none := by
  simp [pinValid, hp, turnedAway_of_acceptsOrdinary ha]

theorem exec_setTrigger_of_accepted {s : State} {pin : Pin} (mode : TriggerMode) (hp : pin.port.toNat < s.cfg.nports)
    (ha : acceptsOrdinary s) :
    exec (.setTrigger pin mode) s = .next (respond 0 { s with trig := bankSet s.trig pin.index mode }) :=
  guarded_effect (firstCause_eq_none_of_accepted hp ha) s _

theorem exec_setCallback_of_accepted {s : State} {pin : Pin} (token : BitVec 32) (hp : pin.port.toNat < s.cfg.nports)
    (ha : acceptsOrdinary s) : exec (.setCallback pin token) s = .next (respond 0 (bindCallback pin token s)) :=
  guarded_effect (firstCause_eq_none_of_accepted hp ha) s _

/-- In a callback CB_RETURN passes its only check. -/
theorem exec_cbReturn_of_insvc {s : State} (h : s.insvc = true) :
    exec .cbReturn s = .next (respond 0 (returnFromCallback s)) :=
  guarded_effect (by simp [turnedAway_callbackReturn, h]) s _

/-! ### The registers of an interrupt group (60_exceptions.md R210) -/

/-- The group of a line: its own for the lines 0 to 4, one pool for 5 to 9 and one for 10 to 15. -/
theorem grp_eq_iff {i : Nibble} {g : Fin 7} :
    grp i = g ↔ (i.toNat ≤ 4 ∧ g.val = i.toNat) ∨ (5 ≤ i.toNat ∧ i.toNat ≤ 9 ∧ g.val = 5) ∨
      (10 ≤ i.toNat ∧ g.val = 6) := by
  unfold grp
  split
  · simp only [Fin.ext_iff]
    omega
  · split <;> simp only [Fin.ext_iff, Fin.coe_ofNat_eq_mod] <;> omega

/-- A register of every group, read after the write to one group's. -/
theorem groupGet_set {α : Type} (v : Vector α 7) (g h : Fin 7) (a : α) :
    (v.set g a)[h] = if g = h then a else v[h] := by
  simp only [Fin.getElem_fin, Vector.getElem_set, Fin.ext_iff]

/-! ### PREV and PEND after a Tick (R139) -/

/-- The edge that each trigger mode arms. -/
theorem edgeSeen_eq_true {trig : TriggerMode} {before now : Level} :
    edgeSeen trig before now = true ↔
      (trig = .rising ∧ before = false ∧ now = true) ∨ (trig = .falling ∧ before = true ∧ now = false) := by
  cases trig <;> simp [edgeSeen]

/-- The edge detector is the last part of a Tick and moves no pin, so what it samples is what the Tick leaves. -/
theorem tick_prev (ext : Nibble → Nibble → Ext) (s : State) (i : Nibble) :
    bankGet (tick ext s).prev i = level (tick ext s) (bankGet s.portsel i) i := by
  rw [← tick_portsel ext s]
  exact detectEdges_prev (advanceSequencer (samplePads ext s)) i

/-- The edge of a Tick lies between the sample before it and the one it takes, whatever the micro-step does. -/
theorem tick_pend (ext : Nibble → Nibble → Ext) (s : State) (i : Nibble) :
    bankGet (tick ext s).pend i =
      (bankGet s.pend i || edgeSeen (bankGet s.trig i) (bankGet s.prev i) (bankGet (tick ext s).prev i)) := by
  have hpend : (advanceSequencer (samplePads ext s)).pend = s.pend :=
    advanceSequencer_keeps (field := (·.pend)) microStep_pend (samplePads ext s)
  have htrig : (advanceSequencer (samplePads ext s)).trig = s.trig :=
    advanceSequencer_keeps (field := (·.trig)) microStep_trig (samplePads ext s)
  have hprev : (advanceSequencer (samplePads ext s)).prev = s.prev :=
    advanceSequencer_keeps (field := (·.prev)) microStep_prev (samplePads ext s)
  rw [tick, detectEdges_pend, detectEdges_prev, hpend, htrig, hprev]

/-! ### The obligations -/

/-- Settles O30. -/
theorem setTriggerResult : Obligations.SetTriggerResult := by
  intro s pin mode hp ha
  refine ⟨_, exec_setTrigger_of_accepted mode hp ha, rfl, fun i => ?_⟩
  simp only [respond_trig, bankGet_bankSet, eq_comm]

/-- Settles O31: the group that the statement describes is the one whose enable and priority the command writes. -/
theorem setCallbackResult : Obligations.SetCallbackResult := by
  intro s pin token hp ha inGroup
  refine ⟨_, exec_setCallback_of_accepted token hp ha, rfl, fun i => ?_, fun g hg => ?_, fun g hg => ?_⟩
  · simp only [respond_portsel, bindCallback_portsel, bankGet_bankSet, eq_comm]
  · have hgrp : grp pin.index = g := grp_eq_iff.mpr hg
    simp only [respond_irqen, respond_irqprio, bindCallback_irqen, bindCallback_irqprio, groupGet_set, hgrp, if_true,
      and_self]
  · have hgrp : grp pin.index ≠ g := fun h => hg (grp_eq_iff.mp h)
    simp only [respond_irqen, respond_irqprio, bindCallback_irqen, bindCallback_irqprio, groupGet_set, hgrp, if_false,
      and_self]

/-- Settles O33: the level that the Tick leaves on the pin is its sample, and the armed edge ends in that sample. -/
theorem edgeDetectorOfATick : Obligations.EdgeDetectorOfATick := by
  intro s driven rest hi hq
  refine ⟨_, step_tick hi (quiet_iff_dueLine_eq_none.mp hq), fun i => ⟨tick_prev _ _ i, ?_⟩⟩
  rw [tick_pend, tick_prev, Bool.or_eq_true, edgeSeen_eq_true]

/-- Settles O32. -/
theorem callbackReturnResult : Obligations.CallbackReturnResult := fun _ h => exec_cbReturn_of_insvc h

end Sys2Proof.Machine

/-! The statements of 42_observer.md: OBSERVE, the micro-step of a stand-alone observation, an observation of a driven
pin, and the waits of the decoder on the observer. First OBSERVE accepted, which observer micro-step each user runs, and
what it sees of a driven pin; then the obligations. -/

namespace Sys2Proof.Machine

/-! ### OBSERVE accepted (60_exceptions.md R208, R226) -/

theorem turnedAway_of_acceptsBlocking {s : State} (h : acceptsBlocking s) : turnedAway .blocking s = false := by
  obtain ⟨alone, idle, free⟩ := h
  simp [turnedAway_blocking, alone, active_eq_false.mpr ⟨idle, free⟩]

theorem exec_observe_of_accepted {s : State} {pin : Pin} (target : Level) (maxTicks : Half)
    (hp : pin.port.toNat < s.cfg.nports) (ha : acceptsBlocking s) (hc : bankGet s.clken pin.port = true) :
    exec (.observe pin target maxTicks) s = .next (effectOf (.observe pin target maxTicks) s) :=
  guarded_effect (by simp [pinValid, clockOn, hp, hc, turnedAway_of_acceptsBlocking ha]) s _

/-! ### The two users of the observer micro-step (R155, R156, 43_decoder.md R173 to R177) -/

theorem microStep_observing {s : State} (idle : s.dstate = .idle) (running : s.oactive = true) :
    microStep s = observerStep endObserve s := by
  simp [microStep, idle, running]

theorem microStep_awaitAck1 {s : State} (hd : s.dstate = .awaitAck1) : microStep s = observerStep ack1Ended s := by
  simp [microStep, hd]

theorem microStep_awaitAck2 {s : State} (hd : s.dstate = .awaitAck2) : microStep s = observerStep ack2Ended s := by
  simp [microStep, hd]

/-- The four positions in which the decoder waits (43_decoder.md R173). -/
theorem wait_cases {s : State} (waits : decoderObserves s = true) (position : positionOk s = true) :
    s.dstate = .awaitAck1 ∨ s.dstate = .awaitAck2 ∨
      (s.dstate = .bitCapture ∧ (s.dphase = phaseWaitHigh ∨ s.dphase = phaseMeasure)) := by
  cases hd : s.dstate with
  | awaitAck1 => exact .inl rfl
  | awaitAck2 => exact .inr (.inl rfl)
  | bitCapture => exact .inr (.inr ⟨rfl, by simpa [positionOk, hd] using position⟩)
  | idle | requestPulse | checksumCheck | done => simp [decoderObserves, hd] at waits

/-- Every wait of the decoder takes the result 0 for a Timeout (43_decoder.md R174 to R177). -/
theorem microStep_wait {s : State} (waits : decoderObserves s = true) (position : positionOk s = true) :
    ∃ ended, microStep s = observerStep ended s ∧ ∀ t, ended 0 t = finish .timeout t := by
  rcases wait_cases waits position with hd | hd | ⟨hd, hp | hp⟩
  · exact ⟨_, microStep_awaitAck1 hd, fun _ => rfl⟩
  · exact ⟨_, microStep_awaitAck2 hd, fun _ => rfl⟩
  · exact ⟨_, microStep_waitHigh hd hp, fun _ => rfl⟩
  · exact ⟨_, microStep_measure hd hp, fun _ => rfl⟩

/-- A poll that finds the bound and not the target ends the observation with 0. -/
theorem observerStep_bound (ended : Half → State → State) {s : State}
    (h : level s s.opin.port s.opin.index ≠ s.otarget) (bound : s.omax ≤ s.ocnt + 1) :
    observerStep ended s = ended 0 (polled s) := by
  rcases observerStep_cases ended s with ⟨heq, -⟩ | ⟨-, -, hend⟩ | ⟨-, left, -⟩
  · exact absurd heq h
  · exact hend
  · exact absurd bound (BitVec.not_le.mpr left)

/-! ### Pins held by the environment (20_memory.md R62 to R64) -/

/-- An input pin that the environment drives shows the drive to everything after pad sampling. -/
theorem level_samplePads_driven {s : State} {driven : List (Pin × Level)} {pin : Pin} {b : Level}
    (hp : pin.port.toNat < s.cfg.nports) (input : (bankGet s.dir pin.port).getLsbD pin.index.toNat = false)
    (held : driven.lookup pin = some b) : level (samplePads (drivenExt driven) s) pin.port pin.index = b := by
  rw [level_input (s := samplePads (drivenExt driven) s) input, samplePads_padin, if_pos hp]
  exact sampledPad_driven held _ _

/-- The micro-step of a Tick sees the level that the Tick's own pad sampling put on the pin (00_scope.md R12). -/
theorem microStep_sampled_match {s : State} {driven : List (Pin × Level)} (idle : s.dstate = .idle)
    (running : s.oactive = true) (hp : s.opin.port.toNat < s.cfg.nports)
    (input : (bankGet s.dir s.opin.port).getLsbD s.opin.index.toNat = false)
    (held : driven.lookup s.opin = some s.otarget) :
    microStep (samplePads (drivenExt driven) s) =
      endObserve (s.ocnt + 1) (polled (samplePads (drivenExt driven) s)) := by
  rw [microStep_observing (s := samplePads (drivenExt driven) s) idle running]
  exact observerStep_match endObserve (level_samplePads_driven hp input held)

/-! ### The event of a timed-out decode (43_decoder.md R183, log 16) -/

theorem failureWord_timeout : failureWord .timeout = 1 := by decide

/-! ### The obligations -/

/-- Settles O37. -/
theorem observeStarts : Obligations.ObserveStarts := by
  intro s pin target maxTicks hp ha hc hm
  rw [exec_observe_of_accepted target maxTicks hp ha hc, effectOf, if_neg hm]
  rfl

/-- Settles O38: the response and the event are put out one after the other. -/
theorem observeOfZeroTicksEndsAtOnce : Obligations.ObserveOfZeroTicksEndsAtOnce := by
  intro s pin target hp ha hc
  rw [exec_observe_of_accepted target 0 hp ha hc, effectOf, if_pos rfl]
  simp [respond, emit, rspWord]

/-- Settles O39: the three outcomes of a poll, with the end of a stand-alone observation. -/
theorem standAloneObserverMicroStep : Obligations.StandAloneObserverMicroStep := by
  intro s idle running
  rw [microStep_observing idle running]
  exact ⟨observerStep_match endObserve, observerStep_bound endObserve, observerStep_poll endObserve⟩

/-- Settles O40: the first poll finds the target and counts itself. -/
theorem observePinAtTargetReturnsOne : Obligations.ObservePinAtTargetReturnsOne := by
  intro s driven rest hi hq idle running alone fresh hp input held
  have hstep := tickPerformsOneMicroStep s driven rest hi hq (.inr running) alone
  have hmicro := microStep_sampled_match (s := { s with inputs := rest }) idle running hp input held
  rw [hmicro, fresh] at hstep
  exact ⟨_, hstep, rfl, rfl⟩

/-- Settles O45: a wait that polls its bound ends in the exit for Timeout. -/
theorem decoderWaitGoesOnOrTimesOut : Obligations.DecoderWaitGoesOnOrTimesOut := by
  intro s waits position hne
  obtain ⟨ended, hmicro, htimeout⟩ := microStep_wait waits position
  rw [hmicro]
  refine ⟨observerStep_poll ended hne, fun bound => ?_⟩
  rw [observerStep_bound ended hne bound, htimeout, ← failureWord_timeout]
  rfl

end Sys2Proof.Machine

/-! The statements of 43_decoder.md: READ, each micro-step of the decoder, one pulse as one bit, and how a decode leaves
the wire. First READ accepted, then the micro-step of each position with its outcomes, the Reading's word field by field,
and which micro-steps can end a decode; then the obligations. -/

namespace Sys2Proof.Machine

/-! ### READ accepted, and commands while the sequencer runs (R166, R186, 60_exceptions.md R226) -/

theorem exec_read_of_accepted {s : State} {pin : Pin} (hp : pin.port.toNat < s.cfg.nports) (ha : acceptsBlocking s) :
    exec (.read pin) s = .next (respond 0 (startRead pin s)) :=
  guarded_effect (by simp [pinValid, hp, turnedAway_of_acceptsBlocking ha]) s _

/-- The two states agree in the registers of the decoder and of the observer (10_state.md R40 to R44). -/
def sameSequencer (s t : State) : Prop :=
  t.dstate = s.dstate ∧ t.dphase = s.dphase ∧ t.bitidx = s.bitidx ∧ t.oactive = s.oactive ∧ t.cnt = s.cnt ∧
    t.dpin = s.dpin ∧ t.opin = s.opin ∧ t.otarget = s.otarget ∧ t.omax = s.omax ∧ t.ocnt = s.ocnt ∧ t.frame = s.frame

/-- OBSERVE and READ are the only commands whose effect touches the sequencer. -/
theorem effectOf_sameSequencer {i : Instr} (h : classOf i ≠ .blocking) (s : State) : sameSequencer s (effectOf i s) := by
  cases i with
  | observe _ _ _ | read _ => exact absurd rfl h
  | _ => simp [sameSequencer, effectOf]

/-! ### RequestPulse (R168 to R172) -/

theorem microStep_low {s : State} (hd : s.dstate = .requestPulse) (hp : s.dphase = phaseLow) :
    microStep s = lowHold s := by
  simp [microStep, hd, hp]

theorem microStep_high {s : State} (hd : s.dstate = .requestPulse) (hp : s.dphase = phaseHigh) :
    microStep s = highHold s := by
  simp [microStep, hd, hp, phaseLow, phaseHigh]

theorem microStep_check {s : State} (hd : s.dstate = .requestPulse) (hp : s.dphase = phaseCheck) :
    microStep s = checkRelease s := by
  simp [microStep, hd, hp, phaseLow, phaseHigh, phaseCheck]

theorem lowHold_of_lt {s : State} (h : (s.cnt + 1).toNat < s.cfg.resetLow.toNat) :
    lowHold s = { s with cnt := s.cnt + 1 } :=
  if_neg (Nat.not_le.mpr h)

theorem lowHold_of_le {s : State} (h : s.cfg.resetLow.toNat ≤ (s.cnt + 1).toNat) :
    lowHold s = { doSet s.dpin true s with imask := true, cnt := 0, dphase := phaseHigh } :=
  if_pos h

theorem highHold_of_lt {s : State} (h : (s.cnt + 1).toNat < s.cfg.startHigh.toNat) :
    highHold s = { s with cnt := s.cnt + 1 } :=
  if_neg (Nat.not_le.mpr h)

theorem highHold_of_le {s : State} (h : s.cfg.startHigh.toNat ≤ (s.cnt + 1).toNat) :
    highHold s = { doSetMode s.dpin .input s with cnt := s.cnt + 1, dphase := phaseCheck } :=
  if_pos h

theorem checkRelease_of_high {s : State} (h : level s s.dpin.port s.dpin.index = true) :
    checkRelease s = finish .notResponding s :=
  if_pos h

theorem checkRelease_of_low {s : State} (h : level s s.dpin.port s.dpin.index = false) :
    checkRelease s = arm true s.cfg.ackTimeout { s with dstate := .awaitAck1, dphase := 0 } :=
  if_neg (by simp [h])

/-- The event of a decode whose sensor does not answer (R183, log 16). -/
theorem failureWord_notResponding : failureWord .notResponding = 2 := by decide

/-! ### A measured bit (R177 to R180) -/

/-- A measurement that ends before its bound shifts in the bit it decides and goes on. -/
theorem microStep_measured {s : State} (hd : s.dstate = .bitCapture) (hp : s.dphase = phaseMeasure)
    (found : level s s.opin.port s.opin.index = s.otarget) (counted : s.ocnt + 1 ≠ 0) :
    microStep s = advanceBit (shiftIn (decideBit s.cfg (s.ocnt + 1)) (polled s)) := by
  rw [microStep_measure hd hp, observerStep_match _ found, measureEnded, if_neg counted, polled_cfg]

/-- The bytes after a shift-in, by their number (R179). -/
theorem shiftIn_frame_get (bit : Bool) (s : State) (k : Fin 5) :
    (shiftIn bit s).frame[k] =
      if k.val = s.bitidx.toNat / 8 then (s.frame[k] <<< 1) ||| (if bit then 1 else 0) else s.frame[k] := by
  simpa [Vector.getD] using shiftIn_frame_getD bit s k.isLt

/-- The bit of a measurement of `r` ticks, as the byte it is shifted in as (R178). -/
theorem ite_decideBit (cfg : Config) (r : Half) :
    (if decideBit cfg r then (1 : Byte) else 0) = if cfg.thresholdUs < r.toNat * cfg.usPerTick then 1 else 0 := by
  simp [decideBit]

/-! ### The Reading's word (R181, R182, 30_encoding.md R98) -/

/-- Every field of E is found in its place (30_encoding.md R98). -/
theorem readingWord_fields (status : Status) (b0 b1 b2 b3 : Byte) (hum temp : BitVec 12) :
    let e := readingWord status b0 b1 b2 b3 hum temp
    e.extractLsb' 0 2 = statusCode status ∧
      e.extractLsb' 2 8 = b0 ∧ e.extractLsb' 10 8 = b1 ∧ e.extractLsb' 18 8 = b2 ∧ e.extractLsb' 26 8 = b3 ∧
      e.extractLsb' 34 12 = hum ∧ e.extractLsb' 46 12 = temp ∧ e.extractLsb' 58 6 = 0 := by
  simp only [readingWord]
  refine ⟨BitVec.extractLsb'_append_eq_right, ?_, ?_, ?_, ?_, ?_, ?_, ?_⟩
  all_goals repeat rw [BitVec.extractLsb'_append_eq_of_le (by decide)]
  case refine_7 => exact BitVec.extractLsb'_eq_self
  all_goals exact BitVec.extractLsb'_append_eq_right

/-- Humidity and temperature in tenths fit their twelve bits (R182). -/
theorem toNat_tenths (whole fraction : Byte) : (tenths whole fraction).toNat = 10 * whole.toNat + fraction.toNat := by
  simp only [tenths, BitVec.toNat_add, BitVec.toNat_mul, BitVec.toNat_setWidth, BitVec.ofNat_eq_ofNat,
    BitVec.toNat_ofNat]
  omega

/-- The status of a completed frame is OK exactly if its byte 4 is the sum of the others mod 256 (R181). -/
theorem statusCode_frameStatus (f : Vector Byte 5) : (statusCode (frameStatus f)).toNat =
    if f[4].toNat = (f[0].toNat + f[1].toNat + f[2].toNat + f[3].toNat) % 256 then 0 else 3 := by
  have hsum : f[4] = checksum f ↔ f[4].toNat = (f[0].toNat + f[1].toNat + f[2].toNat + f[3].toNat) % 256 := by
    simp only [checksum, ← BitVec.toNat_inj, BitVec.toNat_add, Nat.mod_add_mod]
  simp only [frameStatus, hsum]
  split <;> rfl

/-- A completed frame's word, read field by field as numbers and bytes (R181, R182). -/
theorem frameWord_fields (f : Vector Byte 5) :
    ((frameWord f).extractLsb' 0 2).toNat =
        (if f[4].toNat = (f[0].toNat + f[1].toNat + f[2].toNat + f[3].toNat) % 256 then 0 else 3) ∧
      (frameWord f).extractLsb' 2 8 = f[0] ∧ (frameWord f).extractLsb' 10 8 = f[1] ∧
      (frameWord f).extractLsb' 18 8 = f[2] ∧ (frameWord f).extractLsb' 26 8 = f[3] ∧
      ((frameWord f).extractLsb' 34 12).toNat = 10 * f[0].toNat + f[1].toNat ∧
      ((frameWord f).extractLsb' 46 12).toNat = 10 * f[2].toNat + f[3].toNat ∧
      (frameWord f).extractLsb' 58 6 = 0 := by
  obtain ⟨hstatus, h0, h1, h2, h3, hhum, htemp, hzero⟩ :=
    readingWord_fields (frameStatus f) f[0] f[1] f[2] f[3] (tenths f[0] f[1]) (tenths f[2] f[3])
  rw [← toNat_tenths, ← toNat_tenths, ← statusCode_frameStatus]
  exact ⟨congrArg _ hstatus, h0, h1, h2, h3, congrArg _ hhum, congrArg _ htemp, hzero⟩

/-! ### Which micro-steps end a decode, and what they leave of the wire (R170, R184) -/

@[simp] theorem lowHold_dstate (s : State) : (lowHold s).dstate = s.dstate := by
  unfold lowHold
  dsimp only
  split <;> rfl

@[simp] theorem highHold_dstate (s : State) : (highHold s).dstate = s.dstate := by
  unfold highHold
  dsimp only
  split <;> rfl

/-- A decode that has not released the wire yet does not leave its state. -/
theorem microStep_dstate_of_unreleased {s : State} (running : s.dstate ≠ .idle) (held : wireReleased s = false) :
    (microStep s).dstate = s.dstate := by
  cases hd : s.dstate with
  | idle => exact absurd hd running
  | requestPulse =>
    have hcheck : s.dphase ≠ phaseCheck := by
      rintro hp
      simp [wireReleased, hd, hp] at held
    by_cases hlow : s.dphase = phaseLow
    · rw [microStep_low hd hlow, lowHold_dstate, hd]
    · by_cases hhigh : s.dphase = phaseHigh
      · rw [microStep_high hd hhigh, highHold_dstate, hd]
      · simp [microStep, hd, hlow, hhigh, hcheck]
  | awaitAck1 | awaitAck2 | bitCapture => simp [wireReleased, decoderObserves, hd] at held
  | checksumCheck | done => simp [microStep, hd]

/-- Once the wire is released no micro-step of the decoder writes a pin (R184). -/
theorem microStep_isReleased {s : State} (h : wireReleased s = true) {pin : Pin} (hpin : isReleased s pin) :
    isReleased (microStep s) pin := by
  have result := microStep_result s
  generalize microStep s = t at result ⊢
  cases result with
  | low hd hp => simp [wireReleased, decoderObserves, hd, hp, phaseLow, phaseCheck] at h
  | high hd hp => simp [wireReleased, decoderObserves, hd, hp, phaseHigh, phaseCheck] at h
  | _ => exact hpin

/-- A Tick that ends a decode leaves the wire released. -/
theorem StateInv.tick_isReleased {s : State} (inv : StateInv s) (ext : Nibble → Nibble → Ext)
    (running : s.dstate ≠ .idle) (ended : (tick ext s).dstate = .idle) : isReleased (tick ext s) s.dpin := by
  have alone : s.insvc = false := by
    by_contra hv
    rw [tick_stalled ext (.inl (by simpa using hv))] at ended
    exact running ended
  rw [tick_active ext (.inl running) alone] at ended ⊢
  have hwire : wireReleased (samplePads ext s) = true := by
    by_contra hheld
    rw [detectEdges_dstate, microStep_dstate_of_unreleased (s := samplePads ext s) running (by simpa using hheld)] at ended
    exact running ended
  exact microStep_isReleased hwire (inv.released hwire)

/-- Where the sequencer is idle, its phase is 0 and the masked window is closed (10_state.md R41, R45 f). -/
theorem StateInv.closed_of_idle {s : State} (inv : StateInv s) (idle : s.dstate = .idle) :
    s.imask = false ∧ s.dphase = 0 :=
  ⟨by simp [inv.masked_window, inWindow, idle], by simpa [positionOk, idle] using inv.position⟩

/-! ### The obligations -/

/-- Settles O49: the pulse's Ticks shift in its bit, and before the fortieth bit the decoder waits for the next pulse. -/
theorem onePulseIsOneBit : Obligations.OnePulseIsOneBit := by
  intro s u rest inv hw hk hu hi
  obtain ⟨v, hrun, hkept, hrest⟩ := inv.run_pulse hw hu hi
  obtain ⟨hstate, -⟩ := hw
  have hlt : v.bitidx.toNat < 39 := hkept.bitidx ▸ hk
  rw [advanceBit_of_lt (s := shiftIn _ v) hlt] at hrun
  refine ⟨_, hrun, by simpa using hrest, run_induction stepKeepsInvariant inv hrun, ?_, ?_, ?_, ?_, ?_, fun k => ?_⟩
  · simp [awaitsPulse, hkept.dstate, hstate]
  · simp [hkept.bitidx]
  · simp [hkept.cfg]
  · simp [hkept.dpin]
  · simp [hkept.outputs]
  · rw [← hkept.bitidx, ← hkept.frame]
    exact shiftIn_frame_get _ v k

/-- Settles O15: of the effects only those of OBSERVE and READ touch the sequencer, and both are turned away while it
runs. -/
theorem noCommandMovesARunningSequencer : Obligations.NoCommandMovesARunningSequencer := by
  intro i s t running h
  rcases exec_cases h with ⟨c, rfl⟩ | ⟨ha, -, rfl⟩
  · simp
  · refine effectOf_sameSequencer (fun hcls => ?_) s
    have hactive : active s = true := by simpa [active] using running
    simp [hcls, turnedAway_blocking, hactive] at ha

/-- Settles O55: commands and Dispatch leave a running decoder where it is, and a Tick ends a decode only after the switch
to input. -/
theorem decodeLeavesTheWireReleased : Obligations.DecodeLeavesTheWireReleased := by
  intro s t inv hstep hr running idle
  have hclosed := (stepKeepsInvariant s t inv hstep).closed_of_idle idle
  have htaken : StateInv (takeInput s) := inv.unwatched
  rcases step_cases hstep with ⟨hn, -⟩ | ⟨line, -, rfl⟩ | ⟨w, i, -, -, hx⟩ | ⟨w, why, -, -, rfl⟩ | ⟨d, -, rfl⟩ | ⟨-, rfl⟩
  · exact absurd hn hr
  · rw [dispatchLine_only] at idle
    exact absurd idle running
  · obtain ⟨hd, -⟩ := noCommandMovesARunningSequencer i (takeInput s) t (.inl running) hx
    exact absurd (hd.symm.trans idle) running
  · exact absurd idle running
  · have hpin : (tick (drivenExt d) (takeInput s)).dpin = s.dpin := tick_dpin _ _
    exact ⟨hpin, hpin ▸ htaken.tick_isReleased _ running idle, hclosed⟩
  · have hpin : (tick (Config.freeExt s.draws) s).dpin = s.dpin := tick_dpin _ _
    exact ⟨hpin, hpin ▸ inv.tick_isReleased _ running idle, hclosed⟩

/-- Settles O41. -/
theorem readStarts : Obligations.ReadStarts := by
  intro s pin hp ha
  refine ⟨_, exec_read_of_accepted hp ha, rfl, fun p => ?_, fun p i => ⟨?_, ?_, ?_⟩⟩
  · simp only [respond_clken, startRead_clken, bankGet_bankSet, eq_comm]
  · exact getLsbD_bankSet_putBit s.dir pin.port pin.index true p i
  · simp only [respond_pull, startRead_pull, pinGet_pinSet, eq_comm]
  · exact getLsbD_bankSet_putBit s.odr pin.port pin.index false p i

/-- Settles O42. -/
theorem lowHoldMicroStep : Obligations.LowHoldMicroStep := by
  intro s hd hp
  rw [microStep_low hd hp]
  refine ⟨lowHold_of_lt, fun bound => ?_⟩
  rw [lowHold_of_le bound]
  exact ⟨rfl, getLsbD_bankSet_putBit s.odr s.dpin.port s.dpin.index true⟩

/-- Settles O43. -/
theorem highHoldMicroStep : Obligations.HighHoldMicroStep := by
  intro s hd hp
  rw [microStep_high hd hp]
  refine ⟨highHold_of_lt, fun bound => ?_⟩
  rw [highHold_of_le bound]
  refine ⟨rfl, fun p => ?_, fun p i => ⟨?_, ?_⟩⟩
  · simp only [doSetMode_clken, bankGet_bankSet, eq_comm]
  · exact getLsbD_bankSet_putBit s.dir s.dpin.port s.dpin.index false p i
  · simp only [doSetMode_pull, pinGet_pinSet, modePull, eq_comm]

/-- Settles O44. -/
theorem releaseCheckMicroStep : Obligations.ReleaseCheckMicroStep := by
  intro s hd hp
  rw [microStep_check hd hp]
  refine ⟨fun high => ?_, checkRelease_of_low⟩
  rw [checkRelease_of_high high, ← failureWord_notResponding]
  rfl

/-- Settles O46: a poll that finds the target has a count that is not the Timeout's 0. -/
theorem decoderWaitSucceeds : Obligations.DecoderWaitSucceeds := by
  intro s found counted
  refine ⟨fun hd => ?_, fun hd => ?_, fun hd hp => ?_⟩
  · rw [microStep_awaitAck1 hd, observerStep_match _ found, ack1Ended, if_neg counted]
    rfl
  · rw [microStep_awaitAck2 hd, observerStep_match _ found, ack2Ended, if_neg counted]
    rfl
  · rw [microStep_waitHigh hd hp, observerStep_match _ found, waitHighEnded, if_neg counted]
    rfl

/-- Settles O47. -/
theorem measuredBitIsShiftedIn : Obligations.MeasuredBitIsShiftedIn := by
  intro s hd hp found counted hk bit
  have hbit : (if decideBit s.cfg (s.ocnt + 1) then 1 else 0) = bit := ite_decideBit s.cfg (s.ocnt + 1)
  rw [microStep_measured hd hp found counted, advanceBit_of_lt (s := shiftIn _ (polled s)) hk, ← hbit]
  exact ⟨_, rfl, rfl, shiftIn_frame_get _ (polled s)⟩

/-- Settles O48: the frame is the one with the fortieth bit shifted in, and the event is its word, read field by field. -/
theorem fortiethBitDeliversTheReading : Obligations.FortiethBitDeliversTheReading := by
  intro s hd hp found counted hk bit
  have hlast : s.bitidx.toNat = 39 := by rw [hk]; rfl
  have hbit : (if decideBit s.cfg (s.ocnt + 1) then 1 else 0) = bit := ite_decideBit s.cfg (s.ocnt + 1)
  rw [microStep_measured hd hp found counted, advanceBit_of_last (s := shiftIn _ (polled s)) hlast, ← hbit]
  have hframe := shiftIn_frame_get (decideBit s.cfg (s.ocnt + 1)) (polled s)
  rw [polled_bitidx, hlast] at hframe
  exact ⟨_, _, hframe, rfl, frameWord_fields _⟩

end Sys2Proof.Machine

/-! The statements of 60_exceptions.md: what each fault cause refuses, in which order the causes are tested, and masking and
debounce of the edge interrupts. First the checks of R208 written once for all commands, what a fault does to FAULT, and
the debounce; then the obligations. -/

namespace Sys2Proof.Machine

/-! ### The checks of a command, in their order (R208) -/

/-- The commands that need the clock of their pin's port (R206). -/
def usesClock : Instr → Bool
  | .set _ _ => true
  | .get _ => true
  | .toggle _ => true
  | .setRange _ _ _ => true
  | .getRange _ _ => true
  | .observe _ _ _ => true
  | .setMode _ _ => false
  | .setTrigger _ _ => false
  | .setCallback _ _ => false
  | .read _ => false
  | .cbReturn => false

/-- What a command of this column faults where its column is not accepted (R226). -/
def contextFault : CmdClass → FaultCode
  | .ordinary => .busy
  | .blocking => .busy
  | .callbackReturn => .notInService

/-- The checks 2 to 5 of R208, each with whether it applies; `exec_eq_checksOf` says that they are those of `exec`. -/
def checksOf (i : Instr) (s : State) : List (FaultCode × Bool) :=
  [(.invalidPin, !i.pinExists s.cfg.nports), (.rangeOverflow, !i.rangeInPort),
    (contextFault (classOf i), turnedAway (classOf i) s), (.clockOff, usesClock i && i.pin?.any (!clockOn s ·))]

/-- A guarded command depends on its checks through the first that applies. -/
theorem guarded_congr {causes causes' : List (FaultCode × Bool)} (h : firstCause causes = firstCause causes')
    (s effect : State) : guarded causes s effect = guarded causes' s effect := by
  simp only [guarded, h]

/-- Every command makes the checks of R208 in their order; of those that it lacks none applies. -/
theorem exec_eq_checksOf (i : Instr) (s : State) : exec i s = guarded (checksOf i s) s (effectOf i s) := by
  cases i
  all_goals
    refine guarded_congr ?_ s _
    simp [checksOf, Instr.pinExists, Instr.rangeInPort, Instr.pin?, Instr.range?, classOf, contextFault, usesClock, pinValid,
      rangeFits]

/-- The first check that applies is the fault that the command takes. -/
theorem exec_of_firstCause {i : Instr} {s : State} {c : FaultCode} (h : firstCause (checksOf i s) = some c) :
    exec i s = .next (takeFault c s) := by
  rw [exec_eq_checksOf, guarded_fault h]

/-- A command that passes the checks on its word, but not that of its context, takes its column's fault (R226). -/
theorem exec_of_wellFormed_turnedAway {i : Instr} {s : State} (hpin : i.pinExists s.cfg.nports = true)
    (hrange : i.rangeInPort = true) (h : turnedAway (classOf i) s = true) :
    exec i s = .next (takeFault (contextFault (classOf i)) s) :=
  exec_of_firstCause (by simp [checksOf, hpin, hrange, h])

/-- A command that passes every check but the last finds its clock off (R206). -/
theorem exec_of_clockOff {i : Instr} {s : State} {pin : Pin} (hpin : i.pin? = some pin) (huses : usesClock i = true)
    (hp : pin.port.toNat < s.cfg.nports) (hrange : i.rangeInPort = true) (ha : turnedAway (classOf i) s = false)
    (hc : bankGet s.clken pin.port = false) : exec i s = .next (takeFault .clockOff s) :=
  exec_of_firstCause (by simp [checksOf, Instr.pinExists, hpin, hp, hrange, ha, huses, clockOn, hc])

/-! ### The FAULT bits (R201) -/

/-- A fault sets the bit of its own cause and no other's. -/
theorem getLsbD_raiseFlag (c d : FaultCode) (flags : Byte) :
    (raiseFlag c flags).getLsbD (faultNumber d).toNat = (flags.getLsbD (faultNumber d).toNat || decide (c = d)) := by
  have hbit : ((1 : Byte) <<< (faultNumber c).toNat).getLsbD (faultNumber d).toNat = decide (c = d) := by
    cases c <;> cases d <;> rfl
  rw [raiseFlag, BitVec.getLsbD_or, hbit]

/-- What is reported first is one of the checks, and it applies. -/
theorem mem_of_firstCause {causes : List (FaultCode × Bool)} {c : FaultCode} (h : firstCause causes = some c) :
    (c, true) ∈ causes := by
  induction causes with
  | nil => simp at h
  | cons x rest ih =>
    obtain ⟨d, applies⟩ := x
    cases applies with
    | false => exact List.mem_cons_of_mem _ (ih h)
    | true =>
      obtain rfl : d = c := Option.some.inj h
      exact List.mem_cons_self

/-- A command writes no FAULT bit whose cause does not apply to it. -/
theorem exec_keeps_faultBit {i : Instr} {s t : State} {c : FaultCode} (h : exec i s = .next t)
    (hc : (c, true) ∉ checksOf i s) :
    t.fault.getLsbD (faultNumber c).toNat = s.fault.getLsbD (faultNumber c).toNat := by
  rw [exec_eq_checksOf] at h
  rcases guarded_cases h with ⟨d, hd, rfl⟩ | ⟨-, rfl⟩
  · have hne : d ≠ c := fun hdc => hc (hdc ▸ mem_of_firstCause hd)
    simp only [takeFault_fault, getLsbD_raiseFlag, hne, decide_false, Bool.or_false]
  · obtain ⟨-, -, -, -, -, -, -, hfault⟩ := effectOf_keeps i s
    rw [hfault]

/-! ### The acceptance table (R226) -/

theorem classOf_eq_blocking {i : Instr} :
    classOf i = .blocking ↔ (∃ pin b m, i = .observe pin b m) ∨ ∃ pin, i = .read pin := by
  cases i <;> simp [classOf]

theorem classOf_eq_callbackReturn {i : Instr} : classOf i = .callbackReturn ↔ i = .cbReturn := by
  cases i <;> simp [classOf]

/-- Outside the column of CB_RETURN every fault of the context is Busy. -/
theorem contextFault_eq_busy {cls : CmdClass} (h : cls ≠ .callbackReturn) : contextFault cls = .busy := by
  cases cls with
  | callbackReturn => exact absurd rfl h
  | ordinary | blocking => rfl

/-- The first two columns, row by row: a callback turns the blocking commands away, else an active sequencer everything. -/
theorem turnedAway_eq_false {cls : CmdClass} (h : cls ≠ .callbackReturn) (s : State) :
    turnedAway cls s = false ↔ if s.insvc = true then cls ≠ .blocking else s.dstate = .idle ∧ s.oactive = false := by
  rw [← active_eq_false]
  cases cls with
  | callbackReturn => exact absurd rfl h
  | ordinary => rw [turnedAway_ordinary]; cases s.insvc <;> simp
  | blocking => rw [turnedAway_blocking]; cases s.insvc <;> simp

/-! ### Illegal words, and the Dispatch of an armed line (R202, R215, R216) -/

/-- A word that is no command's faults IllegalCommand (R202). -/
theorem runWord_of_not_decode {w : CmdWord} (h : ¬ ∃ i, decode w = .ok i) (s : State) :
    runWord w s = .next (takeFault .illegalCommand s) := by
  unfold runWord
  split
  · exact absurd ⟨_, ‹_›⟩ h
  · rfl

/-- When a Dispatch is enabled (R215). -/
theorem dispatchable_eq_true {s : State} {i : Nibble} : dispatchable s i = true ↔
    bankGet s.pend i = true ∧ s.irqen[grp i] = true ∧ s.imask = false ∧ s.insvc = false := by
  simp [dispatchable, and_assoc]

/-- An armed edge leads to high exactly if it is the rising one. -/
theorem edgeTarget_iff {trig : TriggerMode} {live : Level} (h : trig ≠ .none) :
    edgeTarget trig live ↔ live = decide (trig = .rising) := by
  cases trig <;> simp_all [edgeTarget]

/-! ### The obligations -/

/-- Settles O6: a word that no row admits is no command's word. -/
theorem illegalWordFaults : Obligations.IllegalWordFaults := by
  intro s w rest hi hq hrows
  have hillegal : ¬ ∃ i, decode w = .ok i := by
    rw [decodeAcceptsExactlyTheTable.1 w]
    rintro ⟨row, hrow, hadmits⟩
    simp [hrows row hrow] at hadmits
  rw [step_command hi (quiet_iff_dueLine_eq_none.mp hq)]
  exact runWord_of_not_decode hillegal _

/-- Settles O9: an enabled line that is armed is fed from the binding's port, where the Dispatch re-reads its level. -/
theorem debounceLooksAtTheSourcePin : Obligations.DebounceLooksAtTheSourcePin := by
  intro s i hport hlow harmed hdue
  obtain ⟨-, henabled, -, hfree⟩ := dispatchable_eq_true.mp hdue
  have hinv : invokes i (bankGet s.trig i) (level s s.bind.port i) = true ↔
      level s s.bind.port i = decide (bankGet s.trig i = .rising) := by
    rw [invokes_eq_true, edgeTarget_iff harmed]
    exact or_iff_right (by omega)
  rw [hport i harmed henabled]
  rcases dispatchLine_cases i s with ⟨hyes, h⟩ | ⟨hno, h⟩ <;> rw [h]
  · exact ⟨fun _ => ⟨rfl, rfl⟩, fun hn => absurd (hinv.mp hyes) hn⟩
  · exact ⟨fun hx => absurd (hinv.mpr hx) (by simp [hno]), fun _ => ⟨rfl, hfree⟩⟩

/-- Settles O10: masked, no line is due, and a pending flag is cleared by its Dispatch or by Reset only. -/
theorem maskingDefersNeverDiscards : Obligations.MaskingDefersNeverDiscards := by
  intro s t hmasked hstep
  have hnone (line : Nibble) : nextAction s ≠ .dispatch line := fun h => by
    have := dispatch_due h
    simp [dueLine_masked hmasked] at this
  refine ⟨hnone, fun hreset i hset => ?_⟩
  by_contra hclear
  rcases pendingClearedOnlyByItsDispatch s t i hstep hset (by simpa using hclear) with h | h
  · exact hnone i h
  · exact hreset h

/-- Settles O17: the check of the pin is the first. -/
theorem invalidPinIsRefused : Obligations.InvalidPinIsRefused := by
  intro s i pin hpin hp
  have hfirst : firstCause (checksOf i s) = some .invalidPin := by simp [checksOf, Instr.pinExists, hpin, hp]
  exact exec_of_firstCause hfirst

/-- Settles O18: the check of the range is the next after that of the pin. -/
theorem rangeOverflowIsRefused : Obligations.RangeOverflowIsRefused := by
  intro s pin count value hp hr
  have hfirst (i : Instr) (hpin : i.pin? = some pin) (hrange : i.range? = some (pin.index, count)) :
      firstCause (checksOf i s) = some .rangeOverflow := by
    simp [checksOf, Instr.pinExists, Instr.rangeInPort, hpin, hrange, hp, hr]
  exact ⟨exec_of_firstCause (hfirst _ rfl rfl), exec_of_firstCause (hfirst _ rfl rfl)⟩

/-- Settles O19: the statement's table is that of `turnedAway`, and a Busy check that does not apply leaves bit 4 alone. -/
theorem acceptanceByContext : Obligations.AcceptanceByContext := by
  intro s i hi hwf blocking accepted
  obtain ⟨hpin, hrange⟩ := Bool.and_eq_true_iff.mp hwf
  have hcls : classOf i ≠ .callbackReturn := fun h => hi (classOf_eq_callbackReturn.mp h)
  have hfault := contextFault_eq_busy hcls
  have haccepted : turnedAway (classOf i) s = false ↔ accepted := by
    rw [turnedAway_eq_false hcls, ne_eq, classOf_eq_blocking]
  refine ⟨fun hn => ?_, fun ha => ?_⟩
  · have haway : turnedAway (classOf i) s = true := Bool.eq_true_of_not_eq_false (mt haccepted.mp hn)
    rw [exec_of_wellFormed_turnedAway hpin hrange haway, hfault]
    rfl
  · obtain ⟨t, ht⟩ := exec_answers i s
    exact ⟨t, ht, exec_keeps_faultBit (c := .busy) ht (by simp [checksOf, haccepted.mpr ha])⟩

/-- Settles O20: the check of the clock is the last, and the commands of the second half do not make it. -/
theorem clockOffIsRefused : Obligations.ClockOffIsRefused := by
  refine ⟨fun s pin i hi hp hc => ?_, fun s t i hi ht => ?_⟩
  · rcases hi with ⟨hi, ha⟩ | ⟨⟨b, m, rfl⟩, ha⟩
    · have hbusy := turnedAway_of_acceptsOrdinary ha
      rcases hi with rfl | rfl | ⟨b, rfl⟩ | ⟨n, v, rfl, hr⟩ | ⟨n, rfl, hr⟩
      · exact exec_of_clockOff rfl rfl hp rfl hbusy hc
      · exact exec_of_clockOff rfl rfl hp rfl hbusy hc
      · exact exec_of_clockOff rfl rfl hp rfl hbusy hc
      · exact exec_of_clockOff rfl rfl hp (decide_eq_true hr) hbusy hc
      · exact exec_of_clockOff rfl rfl hp (decide_eq_true hr) hbusy hc
    · exact exec_of_clockOff rfl rfl hp rfl (turnedAway_of_acceptsBlocking ha) hc
  · have hnot : usesClock i = false := by
      rcases hi with rfl | ⟨pin, rfl | ⟨m, rfl⟩ | ⟨m, rfl⟩ | ⟨k, rfl⟩⟩ <;> rfl
    have hcontext : contextFault (classOf i) ≠ .clockOff := by cases classOf i <;> simp [contextFault]
    exact exec_keeps_faultBit (c := .clockOff) ht (by simp [checksOf, hnot, hcontext.symm])

/-- Settles O21: CB_RETURN names no pin and no range, so the check of the context is the first that can apply. -/
theorem strayCallbackReturnIsRefused : Obligations.StrayCallbackReturnIsRefused := fun s h =>
  exec_of_wellFormed_turnedAway rfl rfl ((turnedAway_callbackReturn s).trans (by simp [h]))

end Sys2Proof.Machine

/-! The statements of 70_reset_and_hazards.md: the Reset step, the state right after it, and the bound of OBSERVE and READ.
First when a Reset comes next, then the budget of R262: what each position has left of it, what each end of a wait leaves,
and that nothing comes between the Ticks of a sequencer no callback can interrupt; then the obligations. -/

namespace Sys2Proof.Machine

/-! ### The Reset step (R240) -/

/-- A Reset first in the schedule comes next if it is asserted now, or waits with no Dispatch due (log 3). -/
theorem step_reset {s : State} {defer : Nat} {rest : List Input} (hi : s.inputs = .reset defer :: rest)
    (h : defer = 0 ∨ quiet s) : step s = .next (resetStep { s with inputs := rest }) := by
  have hn : nextAction s = .reset := by
    rcases h with rfl | hq
    · simp [nextAction, hi, resetNow]
    · simp [nextAction, hi, quiet_iff_dueLine_eq_none.mp hq, askedFor]
  rw [step, hn]
  simp [takeInput, hi]

theorem reset_irqprio (g : Fin 7) : State.reset.irqprio[g] = 0 := by revert g; decide

theorem reset_frame (k : Fin 5) : State.reset.frame[k] = 0 := by revert k; decide

/-! ### The positions and their budget (R262) -/

/-- How many micro-steps the waits after the running one can take. -/
def laterWaits (s : State) : Nat :=
  let ack := s.cfg.ackTimeout.toNat
  let bit := s.cfg.bitTimeout.toNat
  match s.dstate with
  | .awaitAck1 => ack + 80 * bit
  | .awaitAck2 => 80 * bit
  | .bitCapture => (if s.dphase = phaseWaitHigh then bit else 0) + 2 * (39 - s.bitidx.toNat) * bit
  | .idle | .requestPulse | .checksumCheck | .done => 0

/-- The positions of RequestPulse (10_state.md R41). -/
theorem pulse_cases {s : State} (hd : s.dstate = .requestPulse) (position : positionOk s = true) :
    s.dphase = phaseLow ∨ s.dphase = phaseHigh ∨ s.dphase = phaseCheck := by
  have hne : s.dphase ≠ 3 := by simpa [positionOk, hd] using position
  revert hne
  generalize s.dphase = ph
  revert ph
  decide

theorem budget_low {s : State} (hd : s.dstate = .requestPulse) (hp : s.dphase = phaseLow) :
    budget s = (s.cfg.resetLow.toNat - s.cnt.toNat) + s.cfg.startHigh.toNat + 1 + 2 * s.cfg.ackTimeout.toNat +
      80 * s.cfg.bitTimeout.toNat := by
  simp [budget, hd, hp]

theorem budget_high {s : State} (hd : s.dstate = .requestPulse) (hp : s.dphase = phaseHigh) :
    budget s = (s.cfg.startHigh.toNat - s.cnt.toNat) + 1 + 2 * s.cfg.ackTimeout.toNat +
      80 * s.cfg.bitTimeout.toNat := by
  simp [budget, hd, hp, phaseLow, phaseHigh]

theorem budget_check {s : State} (hd : s.dstate = .requestPulse) (hp : s.dphase = phaseCheck) :
    budget s = 1 + 2 * s.cfg.ackTimeout.toNat + 80 * s.cfg.bitTimeout.toNat := by
  simp [budget, hd, hp, phaseLow, phaseHigh, phaseCheck]

/-- With nothing running nothing is left. -/
theorem budget_ended {s : State} (idle : s.dstate = .idle) (free : s.oactive = false) : budget s = 0 := by
  simp [budget, idle, free]

/-- A running wait has its polls left, and the waits after it. -/
theorem budget_waiting {s : State} (running : s.oactive = true ∨ decoderObserves s = true)
    (alone : s.oactive = true → s.dstate = .idle) : budget s = (s.omax.toNat - s.ocnt.toNat) + laterWaits s := by
  rcases running with ho | waits
  · simp [budget, laterWaits, alone ho, ho]
  · cases hd : s.dstate with
    | awaitAck1 | awaitAck2 => simp [budget, laterWaits, hd, Nat.add_assoc]
    | bitCapture => by_cases hp : s.dphase = phaseWaitHigh <;> simp [budget, laterWaits, hd, hp, Nat.add_assoc]
    | idle | requestPulse | checksumCheck | done => simp [decoderObserves, hd] at waits

theorem laterWaits_awaitAck1 {s : State} (hd : s.dstate = .awaitAck1) :
    laterWaits s = s.cfg.ackTimeout.toNat + 80 * s.cfg.bitTimeout.toNat := by
  simp [laterWaits, hd]

theorem laterWaits_awaitAck2 {s : State} (hd : s.dstate = .awaitAck2) :
    laterWaits s = 80 * s.cfg.bitTimeout.toNat := by
  simp [laterWaits, hd]

theorem laterWaits_waitHigh {s : State} (hd : s.dstate = .bitCapture) (hp : s.dphase = phaseWaitHigh) :
    laterWaits s = s.cfg.bitTimeout.toNat + 2 * (39 - s.bitidx.toNat) * s.cfg.bitTimeout.toNat := by
  simp [laterWaits, hd, hp]

theorem laterWaits_measure {s : State} (hd : s.dstate = .bitCapture) (hp : s.dphase = phaseMeasure) :
    laterWaits s = 2 * (39 - s.bitidx.toNat) * s.cfg.bitTimeout.toNat := by
  simp [laterWaits, hd, hp, phaseMeasure, phaseWaitHigh]

/-! ### What a hold and the release check leave (R168 to R172) -/

theorem budget_lowHold_lt {s : State} (inv : StateInv s) (hd : s.dstate = .requestPulse) (hp : s.dphase = phaseLow) :
    budget (lowHold s) < budget s := by
  have left := inv.low_left hd hp
  have hcount := toNat_succ left
  rw [budget_low hd hp]
  rcases Nat.lt_or_ge (s.cnt + 1).toNat s.cfg.resetLow.toNat with hgo | hend
  · rw [lowHold_of_lt hgo, budget_low (by exact hd) (by exact hp)]
    dsimp only
    omega
  · rw [lowHold_of_le hend, budget_high (by exact hd) rfl]
    simp only [doSet_cfg, BitVec.ofNat_eq_ofNat, BitVec.toNat_zero]
    omega

theorem budget_highHold_lt {s : State} (inv : StateInv s) (hd : s.dstate = .requestPulse) (hp : s.dphase = phaseHigh) :
    budget (highHold s) < budget s := by
  have left := inv.high_left hd hp
  have hcount := toNat_succ left
  rw [budget_high hd hp]
  rcases Nat.lt_or_ge (s.cnt + 1).toNat s.cfg.startHigh.toNat with hgo | hend
  · rw [highHold_of_lt hgo, budget_high (by exact hd) (by exact hp)]
    dsimp only
    omega
  · rw [highHold_of_le hend, budget_check (by exact hd) rfl]
    simp only [doSetMode_cfg]
    omega

theorem budget_finish {s : State} (free : s.oactive = false) (status : Status) : budget (finish status s) = 0 :=
  budget_ended rfl free

/-- The decoder's next wait has its whole bound left. -/
theorem budget_arm {s : State} (waits : decoderObserves s = true) (free : s.oactive = false) (target : Level)
    (bound : Half) : budget (arm target bound s) = bound.toNat + laterWaits s :=
  budget_waiting (s := arm target bound s) (.inr waits) fun h => by simp [free] at h

theorem budget_checkRelease_lt {s : State} (free : s.oactive = false) (hd : s.dstate = .requestPulse)
    (hp : s.dphase = phaseCheck) : budget (checkRelease s) < budget s := by
  rw [budget_check hd hp]
  unfold checkRelease
  split
  · rw [budget_finish free]
    omega
  · rw [budget_arm (by rfl) (by exact free), laterWaits_awaitAck1 rfl]
    dsimp only
    omega

/-! ### What the ends of the waits leave (43_decoder.md R174 to R183) -/

theorem budget_ack1Ended_le {s : State} (free : s.oactive = false) (hd : s.dstate = .awaitAck1) (r : Half) :
    budget (ack1Ended r s) ≤ laterWaits s := by
  unfold ack1Ended
  split
  · simp [budget_finish free]
  · rw [budget_arm (by rfl) (by exact free), laterWaits_awaitAck1 hd, laterWaits_awaitAck2 rfl]

theorem budget_ack2Ended_le {s : State} (free : s.oactive = false) (hd : s.dstate = .awaitAck2) (r : Half) :
    budget (ack2Ended r s) ≤ laterWaits s := by
  unfold ack2Ended
  split
  · simp [budget_finish free]
  · rw [budget_arm (by rfl) (by exact free), laterWaits_awaitAck2 hd, laterWaits_waitHigh rfl rfl]
    simp only [BitVec.ofNat_eq_ofNat, BitVec.toNat_zero]
    omega

theorem budget_waitHighEnded_le {s : State} (free : s.oactive = false) (hd : s.dstate = .bitCapture)
    (hp : s.dphase = phaseWaitHigh) (r : Half) : budget (waitHighEnded r s) ≤ laterWaits s := by
  unfold waitHighEnded
  split
  · simp [budget_finish free]
  · rw [budget_arm (decoderObserves_of_bitCapture (by exact hd)) (by exact free), laterWaits_waitHigh hd hp,
      laterWaits_measure (by exact hd) rfl]

/-- The next bit has two waits, and the fortieth none after it (R180). -/
theorem budget_advanceBit_le {s : State} (free : s.oactive = false) (hd : s.dstate = .bitCapture)
    (hp : s.dphase = phaseMeasure) (hk : s.bitidx.toNat ≤ 39) : budget (advanceBit s) ≤ laterWaits s := by
  rcases hk.lt_or_eq with hlt | hlast
  · have hnext : (s.bitidx + 1).toNat = s.bitidx.toNat + 1 := toNat_succ (bound := 39) hlt
    have hbits : 39 - s.bitidx.toNat = 39 - (s.bitidx.toNat + 1) + 1 := by omega
    rw [advanceBit_of_lt hlt, budget_arm (decoderObserves_of_bitCapture (by exact hd)) (by exact free),
      laterWaits_measure hd hp, laterWaits_waitHigh (by exact hd) rfl, hnext, hbits]
    exact le_of_eq (by ring)
  · rw [advanceBit_of_last hlast, budget_ended (by rfl) (by exact free)]
    exact Nat.zero_le _

theorem budget_measureEnded_le {s : State} (free : s.oactive = false) (hd : s.dstate = .bitCapture)
    (hp : s.dphase = phaseMeasure) (hk : s.bitidx.toNat ≤ 39) (r : Half) :
    budget (measureEnded r s) ≤ laterWaits s := by
  unfold measureEnded
  split
  · simp [budget_finish free]
  · exact budget_advanceBit_le (s := shiftIn _ s) free hd hp hk

/-- A poll uses up one of the polls left, and an end of the wait all of them (42_observer.md R155). -/
theorem StateInv.budget_observerStep_lt {s : State} {ended : Half → State → State} (inv : StateInv s)
    (running : s.oactive = true ∨ decoderObserves s = true)
    (ends : ∀ r, budget (ended r (polled s)) ≤ laterWaits (polled s)) : budget (observerStep ended s) < budget s := by
  have left := inv.count_left running
  have hlater : laterWaits (polled s) = laterWaits s := rfl
  have hbefore := budget_waiting running inv.one_user
  refine observerStep_induction (P := fun t => budget t < budget s) (fun _ => ?_) fun r => ?_
  · have hafter := budget_waiting (s := polled s) running inv.one_user
    rw [polled_omax, polled_ocnt, toNat_succ left] at hafter
    omega
  · have := ends r
    omega

theorem StateInv.budget_wait_lt {s : State} (inv : StateInv s) (waits : decoderObserves s = true) :
    budget (microStep s) < budget s := by
  have free := inv.oactive_of_running (dstate_ne_idle_of_inWindow (inWindow_of_decoderObserves waits))
  rcases wait_cases waits inv.position with hd | hd | ⟨hd, hp | hp⟩
  · rw [microStep_awaitAck1 hd]
    exact inv.budget_observerStep_lt (.inr waits) (budget_ack1Ended_le (s := polled s) free hd)
  · rw [microStep_awaitAck2 hd]
    exact inv.budget_observerStep_lt (.inr waits) (budget_ack2Ended_le (s := polled s) free hd)
  · rw [microStep_waitHigh hd hp]
    exact inv.budget_observerStep_lt (.inr waits) (budget_waitHighEnded_le (s := polled s) free hd hp)
  · rw [microStep_measure hd hp]
    exact inv.budget_observerStep_lt (.inr waits) (budget_measureEnded_le (s := polled s) free hd hp inv.bit_bound)

theorem StateInv.budget_pulse_lt {s : State} (inv : StateInv s) (hd : s.dstate = .requestPulse) :
    budget (microStep s) < budget s := by
  have free := inv.oactive_of_running (s := s) (by simp [hd])
  rcases pulse_cases hd inv.position with hp | hp | hp
  · rw [microStep_low hd hp]
    exact budget_lowHold_lt inv hd hp
  · rw [microStep_high hd hp]
    exact budget_highHold_lt inv hd hp
  · rw [microStep_check hd hp]
    exact budget_checkRelease_lt free hd hp

theorem StateInv.budget_observation_lt {s : State} (inv : StateInv s) (idle : s.dstate = .idle)
    (running : s.oactive = true) : budget (microStep s) < budget s := by
  rw [microStep_observing idle running]
  refine inv.budget_observerStep_lt (.inl running) fun r => ?_
  rw [budget_ended (s := endObserve r (polled s)) idle rfl]
  exact Nat.zero_le _

/-- Every micro-step of an active sequencer uses up budget, whichever position it is in. -/
theorem StateInv.budget_microStep_lt {s : State} (inv : StateInv s) (running : s.dstate ≠ .idle ∨ s.oactive = true) :
    budget (microStep s) < budget s := by
  cases hd : s.dstate with
  | idle => exact inv.budget_observation_lt hd (running.resolve_left (not_not_intro hd))
  | requestPulse => exact inv.budget_pulse_lt hd
  | awaitAck1 | awaitAck2 | bitCapture => exact inv.budget_wait_lt (by simp [decoderObserves, hd])
  | checksumCheck | done => simpa [positionOk, hd] using inv.position

theorem ended_of_not_running {s : State} (h : ¬ (s.dstate ≠ .idle ∨ s.oactive = true)) :
    s.dstate = .idle ∧ s.oactive = false := by
  simpa using h

/-- A sequencer with no budget left has ended. -/
theorem StateInv.ended_of_budget {s : State} (inv : StateInv s) (h : budget s = 0) :
    s.dstate = .idle ∧ s.oactive = false :=
  ended_of_not_running fun running => Nat.not_lt_zero _ (h ▸ inv.budget_microStep_lt running)

/-! ### Ticks of a sequencer that no callback interrupts (R262) -/

/-- No callback is in service, and none can come as long as the sequencer runs: the window is masked, or no request line
is enabled (60_exceptions.md R215, R218). -/
def uninterrupted (s : State) : Prop :=
  s.insvc = false ∧ (s.dstate ≠ .idle ∨ s.oactive = true → s.imask = true ∨ ∀ g : Fin 7, s.irqen[g] = false)

theorem quiet_of_uninterrupted {s : State} (h : uninterrupted s) (running : s.dstate ≠ .idle ∨ s.oactive = true) :
    quiet s := by
  obtain ⟨-, hnone⟩ := h
  intro i _ enabled
  rcases hnone running with hm | hoff
  · exact .inl hm
  · exact absurd (enabled.symm.trans (hoff _)) (by decide)

/-- The masked window closes only where the decode ends (43_decoder.md R180, R183). -/
theorem microStep_masked_or_ended {s : State} (free : s.oactive = false) (masked : s.imask = true) :
    (microStep s).imask = true ∨ ((microStep s).dstate = .idle ∧ (microStep s).oactive = false) := by
  have result := microStep_result s
  generalize microStep s = t at result ⊢
  cases result with
  | low =>
    unfold lowHold
    dsimp only
    split
    · exact .inl rfl
    · exact .inl masked
  | high =>
    unfold highHold
    dsimp only
    split <;> exact .inl masked
  | nothing | polling | observed | nextWait => exact .inl masked
  | noSensor | timedOut | delivered => exact .inr ⟨rfl, free⟩

theorem StateInv.microStep_uninterrupted {s : State} (inv : StateInv s) (h : uninterrupted s)
    (running : s.dstate ≠ .idle ∨ s.oactive = true) : uninterrupted (microStep s) := by
  obtain ⟨alone, hnone⟩ := h
  refine ⟨by rwa [microStep_insvc], fun still => ?_⟩
  rcases hnone running with hm | hoff
  · have hd : s.dstate ≠ .idle := dstate_ne_idle_of_inWindow (inv.masked_window ▸ hm)
    refine .inl ((microStep_masked_or_ended (inv.oactive_of_running hd) hm).resolve_right ?_)
    rintro ⟨idle, free⟩
    simp [idle, free] at still
  · exact .inr (by simpa using hoff)

/-- One Tick of a running sequencer that no callback interrupts uses up budget, and none interrupts it after. -/
theorem StateInv.step_uninterrupted {s : State} {d : List (Pin × Level)} {rest : List Input} (inv : StateInv s)
    (h : uninterrupted s) (running : s.dstate ≠ .idle ∨ s.oactive = true) (hi : s.inputs = .tick d :: rest) :
    ∃ t, step s = .next t ∧ uninterrupted t ∧ budget t < budget s ∧ t.inputs = rest := by
  have ⟨alone, _⟩ := h
  have hstep := tickPerformsOneMicroStep s d rest hi (quiet_of_uninterrupted h running) running alone
  have sampled : StateInv (samplePads (drivenExt d) { s with inputs := rest }) := inv.unwatched
  exact ⟨_, hstep, sampled.microStep_uninterrupted h running, sampled.budget_microStep_lt running, by simp⟩

/-- As many Ticks as the budget, or more, bring an uninterrupted sequencer to Idle within its budget. -/
theorem StateInv.run_to_idle {ticks : List (List (Pin × Level))} {rest : List Input} {s : State} (inv : StateInv s)
    (h : uninterrupted s) (hi : s.inputs = ticks.map .tick ++ rest) (enough : budget s ≤ ticks.length) :
    ∃ n t, n ≤ budget s ∧ core.run n s = .next t ∧ t.dstate = .idle ∧ t.oactive = false := by
  induction ticks generalizing s with
  | nil => exact ⟨0, s, Nat.zero_le _, rfl, inv.ended_of_budget (Nat.le_zero.mp enough)⟩
  | cons d ds ih =>
    by_cases running : s.dstate ≠ .idle ∨ s.oactive = true
    · obtain ⟨t, hstep, ht, hlt, hrest⟩ := inv.step_uninterrupted h running hi
      rw [List.length_cons] at enough
      obtain ⟨n, u, hn, hrun, hend⟩ := ih (stepKeepsInvariant s t inv hstep) ht hrest (by omega)
      exact ⟨n + 1, u, by omega, (run_step hstep).trans hrun, hend⟩
    · exact ⟨0, s, Nat.zero_le _, rfl, ended_of_not_running running⟩

/-! ### The obligations -/

/-- Settles O58: the sequencer has not ended at the start, so it takes at least one step. -/
theorem sequencerEndsWithinItsBudget : Obligations.SequencerEndsWithinItsBudget := by
  intro s ticks rest inv running alone hnone hi hlen
  obtain ⟨n, t, hn, hrun, idle, free⟩ := inv.run_to_idle ⟨alone, fun _ => hnone⟩ hi hlen.ge
  refine ⟨n, t, Nat.one_le_iff_ne_zero.mpr ?_, hn, hrun, idle, free⟩
  rintro rfl
  injection hrun with hst
  subst hst
  simp [idle, free] at running

/-- Settles O57. -/
theorem microStepUsesUpTheBudget : Obligations.MicroStepUsesUpTheBudget := fun _ => StateInv.budget_microStep_lt

/-- Settles O51: all but PADIN and PREV of the state after the step is that of `State.reset`. -/
theorem resetStepValues : Obligations.ResetStepValues := by
  intro s defer rest hi h
  refine ⟨_, step_reset hi h, fun p => ?_, fun i => ?_, fun g => ⟨reset_irqen g, reset_irqprio g⟩, rfl, rfl, rfl, rfl, rfl,
    rfl, rfl, rfl, rfl, rfl, rfl, rfl, rfl, rfl, reset_frame, rfl, rfl, rfl⟩
  · simp [resetStep, State.reset, pinGet]
  · simp [resetStep, State.reset]

/-- Settles O52. -/
theorem resetStateIsForegroundAndQuiet : Obligations.ResetStateIsForegroundAndQuiet :=
  ⟨rfl, rfl, reset_irqen, fun i _ enabled => absurd (enabled.symm.trans (reset_irqen _)) (by decide),
    .inr ⟨rfl, rfl⟩, ⟨rfl, rfl, rfl⟩, rfl⟩

/-- Settles O56: an accepted READ stands at the beginning of the low hold. -/
theorem readStartsWithTheBound : Obligations.ReadStartsWithTheBound := by
  intro s t pin hp ha ht
  rw [exec_read_of_accepted hp ha] at ht
  injection ht with ht
  subst ht
  exact budget_low (s := respond 0 (startRead pin s)) rfl rfl

end Sys2Proof.Machine
